-- ==== Sys2Proof/Word.lean ====
section
/-!
DEFINITION. The word types of the DTU, the three granularities, and a value held once per granularity.
-/

namespace Sys2Proof

/-- A command word: 64 bits, presented whole on the command port (R70). -/
abbrev Word64 := BitVec 64

/-- A register of the window, the field D of a command word, the data of a response (R26 to R29, R70, R76). -/
abbrev Word32 := BitVec 32

/-- The timer's counter and its load value: CNT_W = 23 bits (R5). -/
abbrev Count := BitVec 23

/-- A cascade counter (CASC_W = 16, R6) and the value of a slot (VAL_W = 16, R8). -/
abbrev Half := BitVec 16

/-- A byte-wide field of a command word: OPC, A, B, C (R70). -/
abbrev Byte := BitVec 8

/-- A two-bit selector: of a prescaler (R74) or of a pool (R75). -/
abbrev Sel := BitVec 2

/-- The three granularities, and with them the three pools, flags and callbacks: g, p in 0, 1, 2 (R17). -/
inductive Gran where
  | fast
  | med
  | slow
  deriving DecidableEq, Repr, Inhabited

/-- One value per granularity: the flags, the pools, the callback bodies. -/
structure Tri (α : Type) where
  fast : α
  med : α
  slow : α
  deriving DecidableEq, Repr

/-- The element of granularity g. -/
def Tri.get {α : Type} (t : Tri α) : Gran → α
  | .fast => t.fast
  | .med => t.med
  | .slow => t.slow

/-- The triple with the element of granularity g replaced. -/
def Tri.set {α : Type} (t : Tri α) (g : Gran) (x : α) : Tri α :=
  match g with
  | .fast => { t with fast := x }
  | .med => { t with med := x }
  | .slow => { t with slow := x }

/-- The triple that holds the same value three times. -/
def Tri.const {α : Type} (x : α) : Tri α := ⟨x, x, x⟩

/-- The triple with f applied to each element. -/
def Tri.map {α β : Type} (f : α → β) (t : Tri α) : Tri β := ⟨f t.fast, f t.med, f t.slow⟩

end Sys2Proof
end

