-- ==== Sys2Proof/Config.lean ====
section
/-!
DEFINITION. What an implementation fixes (the parameters of spec/00_scope.md section 3), and the one free value of the
model: which agent takes a turn that no schedule names.
-/

namespace Sys2Proof

/-- The parameters of R4, R6, R9, R10 and R11. The spec leaves them open as arguments; State holds one value of this type, which no step changes, so
that a statement about every state is a statement for every value of the parameters (log entry 6). -/
structure Params where
  /-- CLK_HZ, the frequency in hertz of the clock that feeds the prescaler (R4). -/
  clkHz : Nat
  /-- M_PERIOD, in fast ticks (R6). -/
  mPeriod : Half
  /-- S_PERIOD, in fast ticks (R6). -/
  sPeriod : Half
  /-- DEC_IN_SCHED: RUN sweeps a pool when it consumes that pool's tick (R9). -/
  decInSched : Bool
  /-- CB_FAST, CB_MED, CB_SLOW: the command words of each callback body (R10). -/
  bodies : Tri (List Word64)
  /-- REG_BASE, the bus address at which the register window starts (R11): informative, read by no rule. The spec gives it no width. -/
  regBase : Nat
  deriving DecidableEq, Repr

/-- The defaults of R4 (80 000 000, from general knowledge, PRESUMED by the spec itself), R6 (100 and 1000), R9 (true), R10 (empty bodies), R11
(0x6000_0600, again PRESUMED by the spec itself); log entry 6. -/
def Params.default : Params :=
  { clkHz := 80000000
    mPeriod := 100#16
    sPeriod := 1000#16
    decInSched := true
    bodies := Tri.const []
    regBase := 0x60000600 }

/-- CAP_FAST, CAP_MED, CAP_SLOW: 10 slots per pool by default (R7). -/
def Config.defaultCaps : Tri Nat := Tri.const 10

/-- The largest reload count: 2^23 - 1 (R5, R101). -/
abbrev Config.maxReload : Nat := 8388607

/-- Whose turn it is: the three agents of R14, and the reset input of R215. -/
inductive Turn where
  | timer
  | dispatcher
  | main
  | reset
  deriving DecidableEq, Repr, Inhabited

/-- FREE VALUE. Which agent takes the n-th turn when State's schedule names none: R60 leaves the interleaving open and R195 lets any enabled
agent be next. It has no body, so a statement holds for every choice (log entry 1). -/
opaque Config.freeTurn : Nat → Turn

end Sys2Proof
end

