-- ==== Sys2Proof/Syntax.lean ====
section
/-!
DEFINITION. The eleven commands, one constructor per row of spec/opcode_table.json, with their operands in the order of
R81, and the faults a command can end in.
-/

namespace Sys2Proof

/-- The commands of R77. Each operand has exactly the width of its field in the command word (R71 to R75), so every term is the decoding of
some word. -/
inductive Instr where
  /-- TINIT freq, psel: configure, arm and start the timer (R102). -/
  | tinit (freq : Word32) (psel : Sel)
  /-- TEN: set the run bit (R104). -/
  | ten
  /-- TDIS: clear the run bit (R105). -/
  | tdis
  /-- TDISP: run the dispatcher's handler (R122). -/
  | tdisp
  /-- RUN: one pass of the scheduler loop (R136). -/
  | run
  /-- VINIT: initialise every slot (R152). -/
  | vinit
  /-- VARM pool, index, ticks: arm one slot (R154). -/
  | varm (pool : Sel) (index ticks : Half)
  /-- VDEC pool: one sweep of a pool (R156). -/
  | vdec (pool : Sel)
  /-- VQRY pool, index: read one slot (R158). -/
  | vqry (pool : Sel) (index : Half)
  /-- RDF reg, boff, wid: read a register field (R172). -/
  | rdf (reg boff wid : Byte)
  /-- WRF reg, boff, val, wid: write a register field (R174). -/
  | wrf (reg boff : Byte) (val : Word32) (wid : Byte)
  deriving DecidableEq, Repr

/-- The faults of R187, one constructor per row. A fault is reported in the command's response and changes no state (R185, R186); it does
not stop the machine. -/
inductive CmdFault where
  /-- ConfigError 1: TINIT with freq = 0. -/
  | freqZero
  /-- ConfigError 2: TINIT with reload count 0. -/
  | reloadZero
  /-- ConfigError 3: TINIT with a reload count above 2^23 - 1. -/
  | reloadTooBig
  /-- ConfigError 4: TINIT with prescaler selector 3. -/
  | prescalerReserved
  /-- IndexError 1: pool selector 3. -/
  | poolReserved
  /-- IndexError 2: index at or above the pool's capacity. -/
  | indexOutOfRange
  /-- AddressFault 1: register offset not a multiple of 4. -/
  | misaligned
  /-- AddressFault 2: register offset unmapped. -/
  | unmapped
  /-- AddressFault 3: write to the read-only T_COUNT. -/
  | readOnly
  /-- FieldError 1: width 0 or above 32. -/
  | badWidth
  /-- FieldError 2: the field leaves the register. -/
  | fieldOutside
  /-- IllegalCommand 1: reserved opcode. -/
  | reservedOpcode
  /-- IllegalCommand 2: non-zero bit in an unused field. -/
  | reservedBits
  /-- IllegalCommand 3: RUN while a RUN is in progress. -/
  | nestedRun
  deriving DecidableEq, Repr

end Sys2Proof
end

