-- ==== Sys2Proof/WellFormed.lean ====
section
/-!
DEFINITION. The checks the spec puts on what a model is given: the ranges of the parameters (R4, R6, R7) and the one
command a callback body must not contain (R10). An instruction needs no check of its own: the operand types of Instr have exactly the widths of
the fields of R71, and a reserved value of an operand decodes and faults when it is performed (R78), so every term of Instr is well formed.
-/

namespace Sys2Proof

/-- The one word that is RUN (R136). -/
def runWord : Word64 := 0x0500000000000000#64

/-- A callback body must not contain RUN (R10). -/
def bodyWf (body : List Word64) : Bool := body.all fun w => w != runWord

/-- CLK_HZ is positive (R4), the periods are at least 1 (R6; their 16 bits bound them above), and no body contains RUN (R10). -/
def Params.wf (p : Params) : Bool :=
  decide (0 < p.clkHz) && p.mPeriod != 0#16 && p.sPeriod != 0#16 &&
    bodyWf p.bodies.fast && bodyWf p.bodies.med && bodyWf p.bodies.slow

/-- 1 <= capacity <= 65 536 (R7). -/
def capWf (n : Nat) : Bool := decide (1 ≤ n ∧ n ≤ 65536)

/-- The three capacities are in the range of R7. -/
def capsWf (c : Tri Nat) : Bool := capWf c.fast && capWf c.med && capWf c.slow

end Sys2Proof
end

