-- ==== Sys2Proof/Decode.lean ====
section
/-!
DEFINITION. From command words to instructions and back: the fields of R70, the formats of R71, the decoder of R79, total
on any 64-bit word and rejecting by name, the encoder, the mask and match columns of R77 beside them, the aliases of R82 and the text of R81.
-/

namespace Sys2Proof

/-! ### The fields of a command word (R70) -/

/-- OPC = bits [63:56]. -/
def opcField (w : Word64) : Byte := w.extractLsb' 56 8

/-- A = bits [55:48]. -/
def aField (w : Word64) : Byte := w.extractLsb' 48 8

/-- B = bits [47:40]. -/
def bField (w : Word64) : Byte := w.extractLsb' 40 8

/-- C = bits [39:32]. -/
def cField (w : Word64) : Byte := w.extractLsb' 32 8

/-- D = bits [31:0]. -/
def dField (w : Word64) : Word32 := w.extractLsb' 0 32

/-- SEL = A[1:0] (R71). -/
def selField (w : Word64) : Sel := (aField w).extractLsb' 0 2

/-- A[7:2], which must be zero in the formats with a selector (R71). -/
def aHigh (w : Word64) : BitVec 6 := (aField w).extractLsb' 2 6

/-- IDX = D[31:16] (R73). -/
def idxField (w : Word64) : Half := (dField w).extractLsb' 16 16

/-- TICKS = D[15:0] (R73). -/
def ticksField (w : Word64) : Half := (dField w).extractLsb' 0 16

/-- The word with the given fields. -/
def joinWord (opc a b c : Byte) (d : Word32) : Word64 := opc ++ a ++ b ++ c ++ d

/-- The field A that carries a selector. -/
def selByte (s : Sel) : Byte := 0#6 ++ s

/-- The field D that carries an index and a second half. -/
def joinHalves (index low : Half) : Word32 := index ++ low

/-! ### Formats and opcodes (R71, R77) -/

/-- The seven formats of R71. -/
inductive Format where
  | n
  | p
  | pf
  | pi
  | pit
  | r
  | w
  deriving DecidableEq, Repr

/-- The eleven operations of R77, without their operands. -/
inductive Opcode where
  | tinit
  | ten
  | tdis
  | tdisp
  | run
  | vinit
  | varm
  | vdec
  | vqry
  | rdf
  | wrf
  deriving DecidableEq, Repr

/-- The column OPC of R77. -/
def Opcode.code : Opcode → Byte
  | .tinit => 0x01#8
  | .ten => 0x02#8
  | .tdis => 0x03#8
  | .tdisp => 0x04#8
  | .run => 0x05#8
  | .vinit => 0x06#8
  | .varm => 0x07#8
  | .vdec => 0x08#8
  | .vqry => 0x09#8
  | .rdf => 0x0A#8
  | .wrf => 0x0B#8

/-- Step (1) of R79: the operation an opcode stands for, none for the reserved 0x00 and 0x0C to 0xFF (R78). -/
def Opcode.ofCode (b : Byte) : Option Opcode :=
  match b.toNat with
  | 1 => some .tinit
  | 2 => some .ten
  | 3 => some .tdis
  | 4 => some .tdisp
  | 5 => some .run
  | 6 => some .vinit
  | 7 => some .varm
  | 8 => some .vdec
  | 9 => some .vqry
  | 10 => some .rdf
  | 11 => some .wrf
  | _ => none

/-- The column "format" of R77. -/
def Opcode.format : Opcode → Format
  | .tinit => .pf
  | .ten => .n
  | .tdis => .n
  | .tdisp => .n
  | .run => .n
  | .vinit => .n
  | .varm => .pit
  | .vdec => .p
  | .vqry => .pi
  | .rdf => .r
  | .wrf => .w

/-- The column "mask" of R77. -/
def Opcode.mask : Opcode → Word64
  | .tinit => 0xFFFCFFFF00000000#64
  | .ten => 0xFFFFFFFFFFFFFFFF#64
  | .tdis => 0xFFFFFFFFFFFFFFFF#64
  | .tdisp => 0xFFFFFFFFFFFFFFFF#64
  | .run => 0xFFFFFFFFFFFFFFFF#64
  | .vinit => 0xFFFFFFFFFFFFFFFF#64
  | .varm => 0xFFFCFFFF00000000#64
  | .vdec => 0xFFFCFFFFFFFFFFFF#64
  | .vqry => 0xFFFCFFFF0000FFFF#64
  | .rdf => 0xFF000000FFFFFFFF#64
  | .wrf => 0xFF00000000000000#64

/-- The column "match" of R77. -/
def Opcode.pattern : Opcode → Word64
  | .tinit => 0x0100000000000000#64
  | .ten => 0x0200000000000000#64
  | .tdis => 0x0300000000000000#64
  | .tdisp => 0x0400000000000000#64
  | .run => 0x0500000000000000#64
  | .vinit => 0x0600000000000000#64
  | .varm => 0x0700000000000000#64
  | .vdec => 0x0800000000000000#64
  | .vqry => 0x0900000000000000#64
  | .rdf => 0x0A00000000000000#64
  | .wrf => 0x0B00000000000000#64

/-- "A word w selects the operation of a row when w and mask = match" (R77). The decoder does not use it: it is the table's second way to
say which words are legal. -/
def Opcode.selects (op : Opcode) (w : Word64) : Bool := w &&& op.mask == op.pattern

/-- Every bit that the format does not use is zero (R71). -/
def Format.unusedZero (f : Format) (w : Word64) : Bool :=
  match f with
  | .n => aField w == 0#8 && bField w == 0#8 && cField w == 0#8 && dField w == 0#32
  | .p => aHigh w == 0#6 && bField w == 0#8 && cField w == 0#8 && dField w == 0#32
  | .pf => aHigh w == 0#6 && bField w == 0#8 && cField w == 0#8
  | .pi => aHigh w == 0#6 && bField w == 0#8 && cField w == 0#8 && ticksField w == 0#16
  | .pit => aHigh w == 0#6 && bField w == 0#8 && cField w == 0#8
  | .r => dField w == 0#32
  | .w => true

/-- Step (3) of R79: the operands of R72 to R75. -/
def Opcode.operands (op : Opcode) (w : Word64) : Instr :=
  match op with
  | .tinit => .tinit (dField w) (selField w)
  | .ten => .ten
  | .tdis => .tdis
  | .tdisp => .tdisp
  | .run => .run
  | .vinit => .vinit
  | .varm => .varm (selField w) (idxField w) (ticksField w)
  | .vdec => .vdec (selField w)
  | .vqry => .vqry (selField w) (idxField w)
  | .rdf => .rdf (aField w) (bField w) (cField w)
  | .wrf => .wrf (aField w) (bField w) (dField w) (cField w)

/-- The decoder, steps (1) to (3) of R79: total, one instruction or one of the two IllegalCommand faults of R78. -/
def decode (w : Word64) : Except CmdFault Instr :=
  match Opcode.ofCode (opcField w) with
  | none => .error .reservedOpcode
  | some op => if op.format.unusedZero w then .ok (op.operands w) else .error .reservedBits

/-! ### The encoder -/

/-- The operation of an instruction. -/
def Instr.opcode : Instr → Opcode
  | .tinit _ _ => .tinit
  | .ten => .ten
  | .tdis => .tdis
  | .tdisp => .tdisp
  | .run => .run
  | .vinit => .vinit
  | .varm _ _ _ => .varm
  | .vdec _ => .vdec
  | .vqry _ _ => .vqry
  | .rdf _ _ _ => .rdf
  | .wrf _ _ _ _ => .wrf

/-- The one command word of an instruction (R70, R71). -/
def encode (i : Instr) : Word64 :=
  match i with
  | .tinit freq psel => joinWord 0x01#8 (selByte psel) 0#8 0#8 freq
  | .ten => joinWord 0x02#8 0#8 0#8 0#8 0#32
  | .tdis => joinWord 0x03#8 0#8 0#8 0#8 0#32
  | .tdisp => joinWord 0x04#8 0#8 0#8 0#8 0#32
  | .run => joinWord 0x05#8 0#8 0#8 0#8 0#32
  | .vinit => joinWord 0x06#8 0#8 0#8 0#8 0#32
  | .varm pool index ticks => joinWord 0x07#8 (selByte pool) 0#8 0#8 (joinHalves index ticks)
  | .vdec pool => joinWord 0x08#8 (selByte pool) 0#8 0#8 0#32
  | .vqry pool index => joinWord 0x09#8 (selByte pool) 0#8 0#8 (joinHalves index 0#16)
  | .rdf reg boff wid => joinWord 0x0A#8 reg boff wid 0#32
  | .wrf reg boff val wid => joinWord 0x0B#8 reg boff wid val

/-- The host's reading of a table word: one 64-bit word, numbered from its least significant bit, every bit at or above nbits zero (log entry
15). -/
def tableWord (nbits w : Nat) : Word64 := BitVec.ofNat 64 (w % 2 ^ nbits)

/-- The instruction the decoder reads from a word of the opcode table, none where it refuses. -/
def decodeTableWord (nbits w : Nat) : Option Instr := (decode (tableWord nbits w)).toOption

/-! ### Text and aliases (R81, R82) -/

/-- The mnemonic of R81. -/
def Opcode.mnemonic : Opcode → String
  | .tinit => "TINIT"
  | .ten => "TEN"
  | .tdis => "TDIS"
  | .tdisp => "TDISP"
  | .run => "RUN"
  | .vinit => "VINIT"
  | .varm => "VARM"
  | .vdec => "VDEC"
  | .vqry => "VQRY"
  | .rdf => "RDF"
  | .wrf => "WRF"

/-- The symbol of a prescaler selector (R81), the number where it has none. -/
def prescalerText (psel : Sel) : String :=
  if psel = 0#2 then "DIV1" else if psel = 1#2 then "DIV16" else if psel = 2#2 then "DIV256" else toString psel.toNat

/-- The symbol of a pool selector (R81), the number where it has none. -/
def poolText (pool : Sel) : String :=
  if pool = 0#2 then "FAST" else if pool = 1#2 then "MED" else if pool = 2#2 then "SLOW" else toString pool.toNat

/-- The symbol of a window offset (R81), the number where it has none. -/
def regText (reg : Byte) : String :=
  if reg = 0x00#8 then "T_LOAD" else if reg = 0x04#8 then "T_COUNT" else if reg = 0x08#8 then "T_CTRL"
  else if reg = 0x10#8 then "T_INTTYPE" else toString reg.toNat

/-- The operands in the order of R81, symbols where there are any and decimal numbers elsewhere. -/
def Instr.operandTexts : Instr → List String
  | .tinit freq psel => [toString freq.toNat, prescalerText psel]
  | .ten => []
  | .tdis => []
  | .tdisp => []
  | .run => []
  | .vinit => []
  | .varm pool index ticks => [poolText pool, toString index.toNat, toString ticks.toNat]
  | .vdec pool => [poolText pool]
  | .vqry pool index => [poolText pool, toString index.toNat]
  | .rdf reg boff wid => [regText reg, toString boff.toNat, toString wid.toNat]
  | .wrf reg boff val wid => [regText reg, toString boff.toNat, toString val.toNat, toString wid.toNat]

/-- The textual form of R81: the mnemonic, then the operands separated by commas. -/
def Instr.text (i : Instr) : String :=
  match i.operandTexts with
  | [] => i.opcode.mnemonic
  | ops => i.opcode.mnemonic ++ " " ++ String.intercalate ", " ops

/-- The aliases of R82, with their operands. -/
inductive Alias where
  | configure (freq : Word32) (psel : Sel)
  | enable
  | disable
  | runOnce
  | initAll
  | arm (pool : Sel) (index ticks : Half)
  | attf (slot value : Half)
  | attm (slot value : Half)
  | atts (slot value : Half)
  | tstart
  | tstop
  deriving DecidableEq, Repr

/-- The expansion of R82: each alias is exactly one command. -/
def Alias.expand : Alias → Instr
  | .configure freq psel => .tinit freq psel
  | .enable => .ten
  | .disable => .tdis
  | .runOnce => .run
  | .initAll => .vinit
  | .arm pool index ticks => .varm pool index ticks
  | .attf slot value => .varm 0#2 slot value
  | .attm slot value => .varm 1#2 slot value
  | .atts slot value => .varm 2#2 slot value
  | .tstart => .wrf 0x08#8 7#8 1#32 1#8
  | .tstop => .wrf 0x08#8 7#8 0#32 1#8

end Sys2Proof
end

