-- ==== Sys2Proof/Machine/State.lean ====
section
/-!
DEFINITION. The state of the DTU as plain data (R20), the host's side of its ports (R218), and the state after reset (R36).
-/

namespace Sys2Proof.Machine

/-- A virtual counter (R31). -/
structure Slot where
  value : Half
  armed : Bool
  deriving DecidableEq, Repr

/-- The initial slot: value 1, armed 0 (R31, R152). -/
def Slot.initial : Slot := ⟨1#16, false⟩

/-- The configuration latch CFG_VALID, CFG_FREQ, CFG_PSEL, CFG_RELOAD (R22). -/
structure CfgLatch where
  valid : Bool
  freq : Word32
  psel : Sel
  reload : Count
  deriving DecidableEq, Repr

/-- The fields of T_CTRL that exist: EN [7], AR [6], PS [3:2] (R28). -/
structure TCtrl where
  en : Bool
  ar : Bool
  ps : Sel
  deriving DecidableEq, Repr

/-- RUNSEQ.phase (R24): IDLE, TAKEg, CBg. -/
inductive Phase where
  | idle
  | take (g : Gran)
  | cb (g : Gran)
  deriving DecidableEq, Repr

/-- The 3-bit encoding of R24: 0 IDLE, 1 TAKE0, 2 CB0, 3 TAKE1, 4 CB1, 5 TAKE2, 6 CB2. -/
def Phase.code : Phase → BitVec 3
  | .idle => 0#3
  | .take .fast => 1#3
  | .cb .fast => 2#3
  | .take .med => 3#3
  | .cb .med => 4#3
  | .take .slow => 5#3
  | .cb .slow => 6#3

/-- RUNSEQ = (phase, pos) (R24). -/
structure RunSeq where
  phase : Phase
  pos : Nat
  deriving DecidableEq, Repr

/-- A response: STATUS in bits [35:32], RDATA in bits [31:0] (R76). -/
structure Response where
  status : BitVec 4
  rdata : Word32
  deriving DecidableEq, Repr

/-- The 36 bits of a response on the port resp (R76, R218). -/
def Response.bits (r : Response) : BitVec 36 := r.status ++ r.rdata

/-- What the DTU puts on its output ports (R218): a response, or one pulse of cb_fast, cb_med or cb_slow. -/
inductive Output where
  | response (r : Response)
  | strobe (g : Gran)
  deriving DecidableEq, Repr

/-- The state. First the state of the DTU, exactly the table of R20; then the history of its output ports; then the arguments of the spec's step
relation (R35), which no rule of the DTU writes. -/
structure State where
  /-- CASC_M (R21). -/
  cascM : Half
  /-- CASC_S (R21). -/
  cascS : Half
  /-- The configuration latch (R22). -/
  cfg : CfgLatch
  /-- RUNSEQ (R24). -/
  seq : RunSeq
  /-- FLAG[0], FLAG[1], FLAG[2] (R25). -/
  flags : Tri Bool
  /-- T_LOAD (R26). -/
  tLoad : Count
  /-- T_COUNT (R27). -/
  tCount : Count
  /-- T_CTRL (R28). -/
  tCtrl : TCtrl
  /-- T_INTTYPE.EDGE (R29). -/
  edge : Bool
  /-- The three pools (R31); CAP[p] is the length of pool p (R7, log entry 6). -/
  vc : Tri (List Slot)
  /-- IRQ_PEND (R33). -/
  irqPend : Bool
  /-- What the output ports carried so far, newest first (R76, R139, R218; log entry 5). -/
  out : List Output
  /-- The parameters of R4 to R11 that are no widths and no capacities (log entry 6). -/
  par : Params
  /-- The command words the host has ready, first first (R219; log entry 3). -/
  cmds : List Word64
  /-- Whose turns come next, first first (R14, R60; log entry 1). -/
  sched : List Turn
  /-- How many turns were taken: the argument of the free value Config.freeTurn (log entry 1). -/
  turns : Nat
  deriving DecidableEq, Repr

/-- Reasons for the machine to stop with a fault. There are none: a fault of the spec is reported in a response and the next command is
accepted normally (R185, R186), so the model answers a next state for it (log entry 4). Safe: nothing is stopped. -/
inductive Fault where
  deriving DecidableEq, Repr

/-- Reasons for a step to be refused: the situations of 93_implementation_defined.md section 3. -/
inductive Refusal where
  /-- An arm of exec whose instruction has no meaning yet. Raised by exec alone; safe. No arm of this model raises it. -/
  | notModelled (mnemonic : String)
  /-- A timer tick with EN = 1 and PS = 3 (X2, R109): the spec gives no result. Raised by the timer's turn alone; safe. -/
  | tickReservedPrescaler
  /-- A timer tick with EN = 1 and AR = 0 (X1, R109): the spec gives no result. Raised by the timer's turn alone; safe. -/
  | tickNoAutoReload
  /-- A timer tick with EN = 1 and T_COUNT = 0 (X3, R109): the spec gives no result. Raised by the timer's turn alone; safe. -/
  | tickAtZero
  deriving DecidableEq, Repr

/-- The capacity CAP[p] of pool p (R7): the number of its slots. -/
def State.cap (s : State) (p : Gran) : Nat := (s.vc.get p).length

/-- The state after reset for given parameters and capacities: the table of R36, with no output given yet, no command waiting and no turn
scheduled. -/
def State.resetWith (par : Params) (caps : Tri Nat) : State :=
  { cascM := par.mPeriod
    cascS := par.sPeriod
    cfg := ⟨false, 0#32, 0#2, 0#23⟩
    seq := ⟨.idle, 0⟩
    flags := Tri.const false
    tLoad := 0#23
    tCount := 0#23
    tCtrl := ⟨false, false, 0#2⟩
    edge := false
    vc := caps.map fun n => List.replicate n Slot.initial
    irqPend := false
    out := []
    par := par
    cmds := []
    sched := []
    turns := 0 }

/-- The state after reset (R36) with the defaults of spec/00_scope.md section 3. -/
def State.reset : State := State.resetWith Params.default Config.defaultCaps

end Sys2Proof.Machine
end

