-- ==== Sys2Proof/Machine/Ops.lean ====
section
/-!
DEFINITION. The named operations over State: responses and faults (R76, R185 to R187), entering the expiry interrupt
(R193), the register window (R50 to R54), the slots (R58, R59), the sequencer (R24), reset (R215).
-/

namespace Sys2Proof.Machine

/-- What a step, and the performing of a command, answers. -/
abbrev Result := Host.Outcome State Fault Refusal

/-! ### Responses and faults -/

/-- The column STATUS of R187. -/
def faultStatus : CmdFault → BitVec 4
  | .freqZero => 1#4
  | .reloadZero => 1#4
  | .reloadTooBig => 1#4
  | .prescalerReserved => 1#4
  | .poolReserved => 2#4
  | .indexOutOfRange => 2#4
  | .misaligned => 3#4
  | .unmapped => 3#4
  | .readOnly => 3#4
  | .badWidth => 4#4
  | .fieldOutside => 4#4
  | .reservedOpcode => 5#4
  | .reservedBits => 5#4
  | .nestedRun => 5#4

/-- The column "subcode" of R187. -/
def faultSubcode : CmdFault → Byte
  | .freqZero => 1#8
  | .reloadZero => 2#8
  | .reloadTooBig => 3#8
  | .prescalerReserved => 4#8
  | .poolReserved => 1#8
  | .indexOutOfRange => 2#8
  | .misaligned => 1#8
  | .unmapped => 2#8
  | .readOnly => 3#8
  | .badWidth => 1#8
  | .fieldOutside => 2#8
  | .reservedOpcode => 1#8
  | .reservedBits => 2#8
  | .nestedRun => 3#8

/-- The response of a fault: RDATA[7:0] is the subcode and RDATA[31:8] is 0 (R76). -/
def faultResponse (f : CmdFault) : Response := ⟨faultStatus f, (faultSubcode f).setWidth 32⟩

/-- A response goes out on the port resp (R76, R218). -/
def State.respond (s : State) (r : Response) : State := { s with out := .response r :: s.out }

/-- One pulse of the callback strobe of granularity g (R139, R218). -/
def State.pulse (s : State) (g : Gran) : State := { s with out := .strobe g :: s.out }

/-- The end of a command that was performed: STATUS 0 with its result (R76). -/
def State.succeed (s : State) (rdata : Word32) : Result := .next (s.respond ⟨0#4, rdata⟩)

/-- "raise Fault(code, sub)" (R17): the response says why and no state is changed (R185, R186). The machine goes on. -/
def State.raise (s : State) (f : CmdFault) : Result := .next (s.respond (faultResponse f))

/-! ### Entering the expiry interrupt

Entry saves nothing, changes no mode and masks nothing; "The only state it changes on entry is IRQ_PEND <- 0" (R193). There is no return
operation and nothing is restored (R194). -/

/-- Entry of the expiry interrupt (R120, R193). -/
def State.enterInterrupt (s : State) : State := { s with irqPend := false }

/-! ### The register window -/

/-- The four registers of the window (R51). -/
inductive Reg where
  | tLoad
  | tCount
  | tCtrl
  | tIntType
  deriving DecidableEq, Repr

/-- T_CTRL as it is read: EN [7], AR [6], PS [3:2], 0 in every reserved bit (R28, R30). -/
def ctrlBits (c : TCtrl) : Word32 :=
  0#24 ++ BitVec.ofBool c.en ++ BitVec.ofBool c.ar ++ 0#2 ++ c.ps ++ 0#2

/-- The bits of a written word that T_CTRL stores (R28, R30). -/
def ctrlOfBits (v : Word32) : TCtrl := ⟨v.getLsbD 7, v.getLsbD 6, v.extractLsb' 2 2⟩

/-- MemRead(off, 4) (R52): the bits that exist at their positions, 0 elsewhere; no side effect. -/
def State.readReg (s : State) (r : Reg) : Word32 :=
  match r with
  | .tLoad => s.tLoad.setWidth 32
  | .tCount => s.tCount.setWidth 32
  | .tCtrl => ctrlBits s.tCtrl
  | .tIntType => (BitVec.ofBool s.edge).setWidth 32

/-- A write of T_LOAD by any path also copies the new value into T_COUNT (R26, R53). -/
def State.writeLoad (s : State) (v : Count) : State := { s with tLoad := v, tCount := v }

/-- MemWrite(off, 4, v) (R53): the bits that exist are stored, the others dropped. T_COUNT is read-only (R27): the check of R173 comes before any
write, so the last arm but one is never asked. -/
def State.writeReg (s : State) (r : Reg) (v : Word32) : State :=
  match r with
  | .tLoad => s.writeLoad (v.setWidth 23)
  | .tCount => s
  | .tCtrl => { s with tCtrl := ctrlOfBits v }
  | .tIntType => { s with edge := v.getLsbD 0 }

/-- Byte k of a register, were the window laid on a byte-addressed bus: bits [8k+7 : 8k] (R54; no rule depends on it). -/
def State.regByte (s : State) (r : Reg) (k : Fin 4) : Byte := (s.readReg r).extractLsb' (8 * k.val) 8

/-- The document's registerAddress of a window offset: REG_BASE + offset (R11; informative, no command carries it). -/
def State.busAddress (s : State) (off : Byte) : Nat := s.par.regBase + off.toNat

/-! ### The slot space -/

/-- The slot VC[p][i]. Beyond the capacity there is no slot (R58); CHECKSLOT (R153) comes before every use, so that value is never asked. -/
def State.slotAt (s : State) (p : Gran) (i : Nat) : Slot := ((s.vc.get p)[i]?).getD Slot.initial

/-- The pool p replaced whole. -/
def State.setPool (s : State) (p : Gran) (l : List Slot) : State := { s with vc := s.vc.set p l }

/-- VC[p][i] <- x: one atomic write of both members (R59). -/
def State.setSlot (s : State) (p : Gran) (i : Nat) (x : Slot) : State := s.setPool p ((s.vc.get p).set i x)

/-- Every slot of a pool initial (R36, R152). -/
def initPool (l : List Slot) : List Slot := l.map fun _ => Slot.initial

/-- A slot in a 32-bit word: bit [16] is armed, bits [15:0] are value, the rest 0 (R31, R158). -/
def slotWord (x : Slot) : Word32 := 0#15 ++ BitVec.ofBool x.armed ++ x.value

/-! ### The sequencer and the turns -/

/-- RUNSEQ <- (phase, pos) (R24). -/
def State.setSeq (s : State) (phase : Phase) (pos : Nat) : State := { s with seq := ⟨phase, pos⟩ }

/-- The agent whose turn it is: the schedule's next, or the free value's when the schedule is used up (log entry 1). -/
def State.nextTurn (s : State) : Turn :=
  match s.sched with
  | [] => Config.freeTurn s.turns
  | t :: _ => t

/-- The turn is taken: the schedule moves on. -/
def State.takeTurn (s : State) : State := { s with sched := s.sched.tail, turns := s.turns + 1 }

/-- Reset (R215): every piece of state of the DTU takes its value of R36; a RUN in progress is abandoned and gives no response. The parameters, the
history of the output ports and the host's side are not the DTU's state (log entry 8). -/
def State.restart (s : State) : State :=
  { s with
    cascM := s.par.mPeriod
    cascS := s.par.sPeriod
    cfg := ⟨false, 0#32, 0#2, 0#23⟩
    seq := ⟨.idle, 0⟩
    flags := Tri.const false
    tLoad := 0#23
    tCount := 0#23
    tCtrl := ⟨false, false, 0#2⟩
    edge := false
    vc := s.vc.map initPool
    irqPend := false }

end Sys2Proof.Machine
end

