-- ==== Sys2Proof/Machine/Operands.lean ====
section
/-!
DEFINITION. What a command's operands stand for and the checks on them, in the order of R189: the prescaler and the reload
count (R74, R101, R102), pool selectors and slot addresses (R75, R153), register offsets and fields (R51, R55, R171, R173).
-/

namespace Sys2Proof.Machine

/-! ### Prescaler and reload count -/

/-- P(SEL): the divisor a prescaler selector stands for, none for the reserved 3 (R74). -/
def divisor (psel : Sel) : Option Nat :=
  if psel = 0#2 then some 1
  else if psel = 1#2 then some 16
  else if psel = 2#2 then some 256
  else none

/-- R = CLK_HZ div (P x freq), in the natural numbers (R101). -/
def reloadCount (clkHz p : Nat) (freq : Word32) : Nat := clkHz / (p * freq.toNat)

/-- The checks of TINIT before any write, in the order ConfigError 4, 1, 2, 3, and the reload count when they pass (R102, R103). -/
def checkReload (s : State) (freq : Word32) (psel : Sel) : Except CmdFault Nat :=
  match divisor psel with
  | none => .error .prescalerReserved
  | some p =>
    if freq = 0#32 then .error .freqZero
    else if reloadCount s.par.clkHz p freq = 0 then .error .reloadZero
    else if reloadCount s.par.clkHz p freq > Config.maxReload then .error .reloadTooBig
    else .ok (reloadCount s.par.clkHz p freq)

/-! ### Pools and slots -/

/-- The pool a selector stands for; 3 is reserved and raises IndexError 1 (R75). -/
def checkPool (sel : Sel) : Except CmdFault Gran :=
  if sel = 0#2 then .ok .fast
  else if sel = 1#2 then .ok .med
  else if sel = 2#2 then .ok .slow
  else .error .poolReserved

/-- CHECKSLOT (R153): the selector first, then the index against the pool's capacity. -/
def checkSlot (s : State) (sel : Sel) (index : Half) : Except CmdFault Gran :=
  match checkPool sel with
  | .error f => .error f
  | .ok p => if s.cap p ≤ index.toNat then .error .indexOutOfRange else .ok p

/-! ### Registers and fields -/

/-- The register at a window offset: misaligned before unmapped (R51, R55, R173). -/
def regAt (off : Byte) : Except CmdFault Reg :=
  if off.extractLsb' 0 2 ≠ 0#2 then .error .misaligned
  else if off = 0x00#8 then .ok .tLoad
  else if off = 0x04#8 then .ok .tCount
  else if off = 0x08#8 then .ok .tCtrl
  else if off = 0x10#8 then .ok .tIntType
  else .error .unmapped

/-- The two field checks, the last of R173. -/
def checkWidth (boff wid : Byte) (r : Reg) : Except CmdFault Reg :=
  if wid.toNat = 0 ∨ 32 < wid.toNat then .error .badWidth
  else if 31 < boff.toNat ∨ 32 < boff.toNat + wid.toNat then .error .fieldOutside
  else .ok r

/-- CHECKFIELD(reg, boff, wid, write) (R173). -/
def checkField (off boff wid : Byte) (write : Bool) : Except CmdFault Reg :=
  match regAt off with
  | .error f => .error f
  | .ok r => if write = true ∧ r = .tCount then .error .readOnly else checkWidth boff wid r

/-- MASK(boff, wid) = (2^wid - 1) x 2^boff, computed in the natural numbers (R171). -/
def fieldMask (boff wid : Nat) : Word32 := BitVec.ofNat 32 ((2 ^ wid - 1) * 2 ^ boff)

/-- (v div 2^boff) mod 2^wid (R172). -/
def fieldGet (v : Word32) (boff wid : Nat) : Word32 := BitVec.ofNat 32 (v.toNat / 2 ^ boff % 2 ^ wid)

/-- (old and not m) or ((val mod 2^wid) x 2^boff) (R174). -/
def fieldPut (old : Word32) (boff wid : Nat) (val : Word32) : Word32 :=
  (old &&& ~~~fieldMask boff wid) ||| BitVec.ofNat 32 (val.toNat % 2 ^ wid * 2 ^ boff)

end Sys2Proof.Machine
end

