-- ==== Sys2Proof/Machine/Flags.lean ====
section
/-!
DEFINITION. The tick flags: the dispatcher's write of 1 and the scheduler's write of 0 (R25, R62).
-/

namespace Sys2Proof.Machine

/-- FLAG[g] <- 1: the dispatcher's write (R25, R121). A flag that is already 1 stays 1. -/
def State.setFlag (s : State) (g : Gran) : State := { s with flags := s.flags.set g true }

/-- FLAG[g] <- 0: the scheduler's write (R25, R137). -/
def State.clearFlag (s : State) (g : Gran) : State := { s with flags := s.flags.set g false }

end Sys2Proof.Machine
end

