-- ==== Sys2Proof/Machine/Counters.lean ====
section
/-!
DEFINITION. The virtual counter pools and the decrement engine: VINIT, VARM, VDEC, VQRY, SWEEP
(spec/43_virtual_counters.md).
-/

namespace Sys2Proof.Machine

/-- What a sweep does to one slot (R155): the decrement saturates at zero (R160), and reaching zero clears armed. -/
def sweepSlot (x : Slot) : Slot :=
  if x.armed = true then
    if x.value = 0#16 ∨ x.value - 1#16 = 0#16 then ⟨0#16, false⟩ else ⟨x.value - 1#16, true⟩
  else x

/-- SWEEP(p): one pass over pool p (R155). -/
def State.sweep (s : State) (p : Gran) : State := s.setPool p ((s.vc.get p).map sweepSlot)

/-- VINIT (R152): every slot of every pool is initial. -/
def execVinit (s : State) : Result :=
  { s with vc := s.vc.map initPool }.succeed 0#32

/-- VARM pool, index, ticks (R154). -/
def execVarm (pool : Sel) (index ticks : Half) (s : State) : Result :=
  match checkSlot s pool index with
  | .error f => s.raise f
  | .ok p => (s.setSlot p index.toNat ⟨ticks, true⟩).succeed 0#32

/-- VDEC pool (R156). -/
def execVdec (pool : Sel) (s : State) : Result :=
  match checkPool pool with
  | .error f => s.raise f
  | .ok p => (s.sweep p).succeed 0#32

/-- VQRY pool, index (R158). -/
def execVqry (pool : Sel) (index : Half) (s : State) : Result :=
  match checkSlot s pool index with
  | .error f => s.raise f
  | .ok p => s.succeed (slotWord (s.slotAt p index.toNat))

end Sys2Proof.Machine
end

