-- ==== Sys2Proof/Machine/Dispatcher.lean ====
section
/-!
DEFINITION. The tick dispatcher: the handler, TDISP and the event D.IRQ (spec/41_tick_dispatcher.md).
-/

namespace Sys2Proof.Machine

/-- Step 1 of the handler: the medium cascade counter (R121). -/
def State.countMed (s : State) : State :=
  if s.cascM - 1#16 = 0#16 then { s with cascM := s.par.mPeriod }.setFlag .med
  else { s with cascM := s.cascM - 1#16 }

/-- Step 2 of the handler: the slow cascade counter (R121). -/
def State.countSlow (s : State) : State :=
  if s.cascS - 1#16 = 0#16 then { s with cascS := s.par.sPeriod }.setFlag .slow
  else { s with cascS := s.cascS - 1#16 }

/-- HANDLER (R121): both counters count fast ticks, and every run is a fast tick. -/
def State.handler (s : State) : State := s.countMed.countSlow.setFlag .fast

/-- TDISP (R122): the handler from the command port; IRQ_PEND is neither read nor written. -/
def execTdisp (s : State) : Result := s.handler.succeed 0#32

/-- D.IRQ (R120): enabled iff IRQ_PEND = 1; entry clears it, then the handler runs. Otherwise the dispatcher takes no step. -/
def dispatcherTurn (s : State) : Result :=
  if s.irqPend = true then .next s.enterInterrupt.handler else .next s

end Sys2Proof.Machine
end

