-- ==== Sys2Proof/Machine/Fields.lean ====
section
/-!
DEFINITION. Register field access: RDF and WRF (spec/44_register_field_access.md).
-/

namespace Sys2Proof.Machine

/-- RDF reg, boff, wid (R172): no state is written. -/
def execRdf (reg boff wid : Byte) (s : State) : Result :=
  match checkField reg boff wid false with
  | .error f => s.raise f
  | .ok r => s.succeed (fieldGet (s.readReg r) boff.toNat wid.toNat)

/-- WRF reg, boff, val, wid (R174): read, merge and write are one step (R56). -/
def execWrf (reg boff : Byte) (val : Word32) (wid : Byte) (s : State) : Result :=
  match checkField reg boff wid true with
  | .error f => s.raise f
  | .ok r => (s.writeReg r (fieldPut (s.readReg r) boff.toNat wid.toNat val)).succeed 0#32

end Sys2Proof.Machine
end

