-- ==== Sys2Proof/Machine/Scheduler.lean ====
section
/-!
DEFINITION. The scheduler loop: RUN, the micro-step TAKE(g) and the return from a callback (spec/42_tick_scheduler.md).
-/

namespace Sys2Proof.Machine

/-- RUN (R136): accepted only when the sequencer is idle; its response comes when the sequencer is idle again. -/
def execRun (s : State) : Result :=
  if s.seq.phase = .idle then .next (s.setSeq (.take .fast) 0) else s.raise .nestedRun

/-- RUNSEQ <- (NEXT(g), 0), and when NEXT(g) is IDLE the response of RUN (R136, R137, R139). -/
def State.leave (s : State) (g : Gran) : State :=
  match g with
  | .fast => s.setSeq (.take .med) 0
  | .med => s.setSeq (.take .slow) 0
  | .slow => (s.setSeq .idle 0).respond ⟨0#4, 0#32⟩

/-- The sweep inside TAKE, when DEC_IN_SCHED (R138). -/
def State.sweepIfEnabled (s : State) (g : Gran) : State := if s.par.decInSched = true then s.sweep g else s

/-- TAKE(g): test-and-clear of one flag as one step, the flag cleared before the callback is invoked (R137, R138). -/
def State.take (s : State) (g : Gran) : State :=
  if s.flags.get g = true then (((s.clearFlag g).sweepIfEnabled g).pulse g).setSeq (.cb g) 0
  else s.leave g

end Sys2Proof.Machine
end

