-- ==== Sys2Proof/Machine/Timer.lean ====
section
/-!
DEFINITION. The hardware timer and its driver: TINIT, TEN, TDIS and the event T.TICK (spec/40_timer_driver.md).
-/

namespace Sys2Proof.Machine

/-- T_CTRL.EN <- b (R104, R105). -/
def State.setRun (s : State) (b : Bool) : State := { s with tCtrl := { s.tCtrl with en := b } }

/-- T_CTRL.PS <- psel. -/
def State.setPrescaler (s : State) (psel : Sel) : State := { s with tCtrl := { s.tCtrl with ps := psel } }

/-- T_CTRL.AR <- b. -/
def State.setAutoReload (s : State) (b : Bool) : State := { s with tCtrl := { s.tCtrl with ar := b } }

/-- T_INTTYPE.EDGE <- b. -/
def State.setEdge (s : State) (b : Bool) : State := { s with edge := b }

/-- The configuration latch takes what TINIT computed (R22, R102). -/
def State.latch (s : State) (freq : Word32) (psel : Sel) (reload : Count) : State :=
  { s with cfg := ⟨true, freq, psel, reload⟩ }

/-- The six register effects of TINIT in the order of R102. -/
def State.program (s : State) (psel : Sel) (reload : Count) : State :=
  (((((s.setRun false).setPrescaler psel).writeLoad reload).setAutoReload true).setRun true).setEdge true

/-- TINIT freq, psel (R102, R103): every check before the first write. -/
def execTinit (freq : Word32) (psel : Sel) (s : State) : Result :=
  match checkReload s freq psel with
  | .error f => s.raise f
  | .ok r => ((s.program psel (BitVec.ofNat 23 r)).latch freq psel (BitVec.ofNat 23 r)).succeed 0#32

/-- TEN (R104). -/
def execTen (s : State) : Result := (s.setRun true).succeed 0#32

/-- TDIS (R105). -/
def execTdis (s : State) : Result := (s.setRun false).succeed 0#32

/-- The counting of R108: at zero the counter reloads and, if EDGE = 1, the interrupt becomes pending. -/
def State.count (s : State) : State :=
  if s.tCount - 1#23 = 0#23 then { s with tCount := s.tLoad, irqPend := s.irqPend || s.edge }
  else { s with tCount := s.tCount - 1#23 }

/-- T.TICK (R108). With EN = 0 the timer takes no step. The three refused states of R109 are told apart by name, in the order R108 lists them (log
entry 7). -/
def timerTurn (s : State) : Result :=
  if s.tCtrl.en = false then .next s
  else if s.tCtrl.ps = 3#2 then .refused .tickReservedPrescaler
  else if s.tCtrl.ar = false then .refused .tickNoAutoReload
  else if s.tCount = 0#23 then .refused .tickAtZero
  else .next s.count

end Sys2Proof.Machine
end

