-- ==== Sys2Proof/Machine/Dispatch.lean ====
section
/-!
DEFINITION. One arm per command: what performing it does (R77, column "semantics").
-/

namespace Sys2Proof.Machine

/-- What performing a command does to the state. -/
def exec (i : Instr) (s : State) : Host.Outcome State Fault Refusal :=
  match i with
  | .tinit freq psel => Sys2Proof.Machine.execTinit freq psel s
  | .ten => Sys2Proof.Machine.execTen s
  | .tdis => Sys2Proof.Machine.execTdis s
  | .tdisp => Sys2Proof.Machine.execTdisp s
  | .run => Sys2Proof.Machine.execRun s
  | .vinit => Sys2Proof.Machine.execVinit s
  | .varm pool index ticks => Sys2Proof.Machine.execVarm pool index ticks s
  | .vdec pool => Sys2Proof.Machine.execVdec pool s
  | .vqry pool index => Sys2Proof.Machine.execVqry pool index s
  | .rdf reg boff wid => Sys2Proof.Machine.execRdf reg boff wid s
  | .wrf reg boff val wid => Sys2Proof.Machine.execWrf reg boff val wid s

end Sys2Proof.Machine
end

