-- ==== Sys2Proof/Machine/Sequencer.lean ====
section
/-!
DEFINITION. What each agent does in its turn: the main context performs a queued command word or a micro-step of RUN
(R14, R24, R137, R139), the timer ticks (R108), the dispatcher serves the interrupt (R120), reset restarts (R215).
-/

namespace Sys2Proof.Machine

/-- A command word is decoded and performed (R79); an illegal word answers IllegalCommand and changes no state (R78). -/
def perform (w : Word64) (s : State) : Result :=
  match decode w with
  | .error f => s.raise f
  | .ok i => exec i s

/-- RUNSEQ.pos <- RUNSEQ.pos + 1 (R139). -/
def State.bumpPos (s : State) : State := { s with seq := { s.seq with pos := s.seq.pos + 1 } }

/-- The position moves on after a command of a body, whether it faulted or not (R139). -/
def bumpAfter : Result → Result
  | .next s => .next s.bumpPos
  | .fault f => .fault f
  | .refused r => .refused r

/-- CBSTEP(g) (R139): the next command of the body, as if the main context had issued it, or the callback's return. -/
def cbStep (g : Gran) (s : State) : Result :=
  match (s.par.bodies.get g)[s.seq.pos]? with
  | some w => bumpAfter (perform w s)
  | none => .next (s.leave g)

/-- The main context's own command, when the sequencer is idle: the next word of the host's queue, none if the host has none (R24, R219; log entry
3). -/
def issueCommand (s : State) : Result :=
  match s.cmds with
  | [] => .next s
  | w :: rest => perform w { s with cmds := rest }

/-- The turn of the main context (R14, R24). -/
def mainTurn (s : State) : Result :=
  match s.seq.phase with
  | .idle => issueCommand s
  | .take g => .next (s.take g)
  | .cb g => cbStep g s

/-- The turn of an agent, or of the reset input. -/
def agentTurn (t : Turn) (s : State) : Result :=
  match t with
  | .timer => timerTurn s
  | .dispatcher => dispatcherTurn s
  | .main => mainTurn s
  | .reset => .next s.restart

/-- The state in which the very next turn is the main context's, the sequencer is idle and the host's next word is w (log entry 3). -/
def State.present (s : State) (w : Word64) : State :=
  { s with seq := ⟨.idle, 0⟩, cmds := w :: s.cmds, sched := .main :: s.sched }

end Sys2Proof.Machine
end

