-- ==== Sys2Proof/Machine/Step.lean ====
section
/-!
DEFINITION. One step of the machine: one atomic step of the agent whose turn it is (R14, R60).
-/

namespace Sys2Proof.Machine

/-- One step: the schedule names the agent (log entry 1), and it takes its turn. -/
def step (s : State) : Host.Outcome State Fault Refusal := agentTurn s.nextTurn s.takeTurn

/-- The state whose very next step performs the given command word: the host has presented it and the main context has the turn. -/
def State.withFetchWord (s : State) (nbits w : Nat) : State := s.present (tableWord nbits w)

end Sys2Proof.Machine
end

