-- ==== Sys2Proof/Safety.lean ====
section
/-!
DEFINITION. The words claims are stated in: the DTU's own part of a state, what a step performs, the invariants the spec
gives, sequences of commands and of turns, and what a run's end and quiescence mean (R220).
-/

namespace Sys2Proof

/-! ### Kinds of commands -/

/-- The instruction is a field write of any register (R174). -/
def Instr.isFieldWrite : Instr → Bool
  | .tinit _ _ => false
  | .ten => false
  | .tdis => false
  | .tdisp => false
  | .run => false
  | .vinit => false
  | .varm _ _ _ => false
  | .vdec _ => false
  | .vqry _ _ => false
  | .rdf _ _ _ => false
  | .wrf _ _ _ _ => true

/-- The instruction is one that may write a timer register: TINIT, TEN, TDIS, WRF (R28, R29, R197). -/
def Instr.writesTimer : Instr → Bool
  | .tinit _ _ => true
  | .ten => true
  | .tdis => true
  | .tdisp => false
  | .run => false
  | .vinit => false
  | .varm _ _ _ => false
  | .vdec _ => false
  | .vqry _ _ => false
  | .rdf _ _ _ => false
  | .wrf _ _ _ _ => true

/-- The instruction is one that may write a slot: VINIT, VARM, VDEC (R31). -/
def Instr.writesSlots : Instr → Bool
  | .tinit _ _ => false
  | .ten => false
  | .tdis => false
  | .tdisp => false
  | .run => false
  | .vinit => true
  | .varm _ _ _ => true
  | .vdec _ => true
  | .vqry _ _ => false
  | .rdf _ _ _ => false
  | .wrf _ _ _ _ => false

namespace Machine

/-! ### Parts of a state -/

/-- The state of the DTU (R20) with its parameters, without the history of the ports and the host's side: two states with the same dtu are the
same hardware state. -/
def State.dtu (s : State) : State := { s with out := [], cmds := [], sched := [], turns := 0 }

/-- How many pulses the strobe of granularity g has given (R139). -/
def State.strobes (s : State) (g : Gran) : Nat := s.out.count (.strobe g)

/-- The capacities CAP_FAST, CAP_MED, CAP_SLOW (R7): the lengths of the pools. -/
def State.caps (s : State) : Tri Nat := s.vc.map List.length

/-! ### The names of operands -/

/-- The selector of a pool (R75). -/
def selOf : Gran → Sel
  | .fast => 0#2
  | .med => 1#2
  | .slow => 2#2

/-- The window offset of a register (R51). -/
def offsetOf : Reg → Byte
  | .tLoad => 0x00#8
  | .tCount => 0x04#8
  | .tCtrl => 0x08#8
  | .tIntType => 0x10#8

/-- The field (boff, wid) lies inside a register (R171). -/
def FieldInside (boff wid : Byte) : Prop := 1 ≤ wid.toNat ∧ boff.toNat + wid.toNat ≤ 32

/-- The bits of a register that exist; the others are reserved (R26 to R30). -/
def implemented : Reg → Nat → Bool
  | .tLoad, k => decide (k < 23)
  | .tCount, k => decide (k < 23)
  | .tCtrl, k => k == 2 || k == 3 || k == 6 || k == 7
  | .tIntType, k => k == 0

/-- The phase after granularity g: NEXT(0) = TAKE1, NEXT(1) = TAKE2, NEXT(2) = IDLE (R137). -/
def phaseAfter : Gran → Phase
  | .fast => .take .med
  | .med => .take .slow
  | .slow => .idle

/-- The prescaler selectors with their divisors P(SEL) (R74). -/
def divisors : List (Sel × Nat) := [(0#2, 1), (1#2, 16), (2#2, 256)]

/-- The faults each operation can raise, none standing for a word that is no command, as the 36 bits of their responses: STATUS in bits [35:32],
subcode in bits [7:0] (R76, R187, column "raised by"). -/
def faultCodes : Option Opcode → List Nat
  | none => [0x500000001, 0x500000002]
  | some .tinit => [0x100000001, 0x100000002, 0x100000003, 0x100000004]
  | some .ten => []
  | some .tdis => []
  | some .tdisp => []
  | some .run => [0x500000003]
  | some .vinit => []
  | some .varm => [0x200000001, 0x200000002]
  | some .vdec => [0x200000001]
  | some .vqry => [0x200000001, 0x200000002]
  | some .rdf => [0x300000001, 0x300000002, 0x400000001, 0x400000002]
  | some .wrf => [0x300000001, 0x300000002, 0x300000003, 0x400000001, 0x400000002]

/-! ### What a step performs -/

/-- The word the main context performs if it has the turn: the host's next word when the sequencer is idle, the body's next word in a callback, none
in a TAKE step or when there is none (R24, R139). -/
def State.nextWord (s : State) : Option Word64 :=
  match s.seq.phase with
  | .idle => s.cmds.head?
  | .take _ => none
  | .cb g => (s.par.bodies.get g)[s.seq.pos]?

/-- The command the next step performs, none if that step performs no legal command word. -/
def State.performs (s : State) : Option Instr :=
  if s.nextTurn = .main then s.nextWord.bind fun w => (decode w).toOption else none

/-- The next step is a run of the handler: D.IRQ with an interrupt pending, or TDISP (R121). -/
def State.runsHandler (s : State) : Prop :=
  (s.nextTurn = .dispatcher ∧ s.irqPend = true) ∨ s.performs = some .tdisp

/-- The next step is a sweep of pool p: VDEC of it (R156), or a TAKE that consumes its tick with DEC_IN_SCHED (R138). -/
def State.sweepsPool (s : State) (p : Gran) : Bool :=
  s.performs == some (.vdec (selOf p)) ||
    (s.nextTurn == .main && s.seq.phase == .take p && s.flags.get p && s.par.decInSched)

/-- The next step writes slot index of pool p by other means than a sweep: a VARM of that slot, a VINIT, a reset (R31, R36). -/
def State.rewritesSlot (s : State) (p : Gran) (index : Half) : Prop :=
  s.nextTurn = .reset ∨ s.performs = some .vinit ∨ ∃ ticks, s.performs = some (.varm (selOf p) index ticks)

/-! ### Sequences -/

/-- One result after another: the first that is no next state ends the sequence. -/
def chain {α : Type} (f : α → State → Result) : List α → State → Result
  | [], s => .next s
  | a :: rest, s =>
    match f a s with
    | .next t => chain f rest t
    | .fault r => .fault r
    | .refused r => .refused r

/-- Commands performed one after the other. -/
def execSeq : List Instr → State → Result := chain exec

/-- Turns taken one after the other. -/
def turnSeq : List Turn → State → Result := chain agentTurn

/-- The result of n steps. -/
def runFor : Nat → State → Result
  | 0, s => .next s
  | n + 1, s =>
    match step s with
    | .next t => runFor n t
    | .fault r => .fault r
    | .refused r => .refused r

/-- How many of the next n steps, up to the first that answers no next state, are taken from a state that meets the condition. -/
def State.countSteps (cond : State → Bool) : Nat → State → Nat
  | 0, _ => 0
  | n + 1, s =>
    (cond s).toNat +
      match step s with
      | .next t => State.countSteps cond n t
      | .fault _ => 0
      | .refused _ => 0

/-- How many of the next n steps sweep pool p. -/
def State.countSweeps (p : Gran) (n : Nat) (s : State) : Nat := s.countSteps (fun t => t.sweepsPool p) n

/-- How many of the next n steps are turns of the timer. -/
def State.countTicks (n : Nat) (s : State) : Nat := s.countSteps (fun t => t.nextTurn == .timer) n

/-- A RUN in progress at s ends with the last of n + 1 turns of the main context in a row, which leads to t (R136): up to then the sequencer is busy and
only words of the bodies give responses; the last turn makes the sequencer idle and gives RUN's response (0, 0). -/
def State.RunEndsWith (s : State) (n : Nat) (t : State) : Prop :=
  ∃ u, turnSeq (List.replicate n .main) s = .next u ∧ mainTurn u = .next t ∧
    t.seq = ⟨.idle, 0⟩ ∧ t.out = .response ⟨0#4, 0#32⟩ :: u.out ∧
    ∀ m x, m ≤ n → turnSeq (List.replicate m .main) s = .next x →
      x.seq.phase ≠ .idle ∧
        (m < n → ∀ y r, mainTurn x = .next y → y.out = .response r :: x.out → x.nextWord ≠ none)

/-- One run of the handler executes FLAG[g] <- 1, whether or not the flag was already 1 (R123): run with all flags 0, it leaves that flag 1. -/
def State.setsFlag (s : State) (g : Gran) : Bool := ({ s with flags := Tri.const false }.handler).flags.get g

/-- How many of n runs of the handler execute FLAG[g] <- 1 (R123). -/
def State.countSets (g : Gran) : Nat → State → Nat
  | 0, _ => 0
  | n + 1, s => (s.setsFlag g).toNat + State.countSets g n s.handler

/-! ### Invariants -/

/-- 1 <= CASC_M <= M_PERIOD and 1 <= CASC_S <= S_PERIOD (R21). -/
def State.CascadesInRange (s : State) : Prop :=
  (1 ≤ s.cascM.toNat ∧ s.cascM.toNat ≤ s.par.mPeriod.toNat) ∧
    (1 ≤ s.cascS.toNat ∧ s.cascS.toNat ≤ s.par.sPeriod.toNat)

/-- RUNSEQ.pos points into the body, or just behind it, while the phase is CBg and is 0 in every other phase (R24, R139). -/
def State.SequencerInBody (s : State) : Prop :=
  match s.seq.phase with
  | .idle => s.seq.pos = 0
  | .take _ => s.seq.pos = 0
  | .cb g => s.seq.pos ≤ (s.par.bodies.get g).length

/-- An unarmed slot is initial or expired: its value is 1 or 0 (R151). -/
def State.UnarmedSlotsAtRest (s : State) : Prop :=
  ∀ p, ∀ x ∈ s.vc.get p, x.armed = false → x.value = 1#16 ∨ x.value = 0#16

/-- Every response given so far carries a status code of R76: 6 to 15 are never produced. -/
def State.StatusesKnown (s : State) : Prop := ∀ r, .response r ∈ s.out → r.status.toNat ≤ 5

/-- The invariant of the machine: parameters and capacities in range (R4, R6, R7, R10), and the four conditions above. -/
structure State.Inv (s : State) : Prop where
  params : s.par.wf = true
  caps : capsWf s.caps = true
  cascades : s.CascadesInRange
  sequencer : s.SequencerInBody
  slots : s.UnarmedSlotsAtRest
  statuses : s.StatusesKnown

/-- The latch describes the timer (R22): T_LOAD = CFG_RELOAD, T_CTRL.PS = CFG_PSEL and CFG_RELOAD = CLK_HZ div (P(CFG_PSEL) x CFG_FREQ), whenever
CFG_VALID = 1. -/
def State.LatchDescribesTimer (s : State) : Prop :=
  s.cfg.valid = true →
    s.tLoad = s.cfg.reload ∧ s.tCtrl.ps = s.cfg.psel ∧
      ∃ p, divisor s.cfg.psel = some p ∧ s.cfg.reload.toNat = s.par.clkHz / (p * s.cfg.freq.toNat)

/-- The timer is in no state whose tick R109 refuses, and stays out of them as long as only the driver writes it. -/
def State.TimerConfigured (s : State) : Prop :=
  s.tCtrl.ar = true ∧ s.tCtrl.ps ≠ 3#2 ∧ s.tLoad ≠ 0#23 ∧ s.tCount ≠ 0#23

/-! ### The end of a run (R220) -/

/-- Conditions (a) to (c) of R220: no command waits, the sequencer is idle, the schedule stops here. It says nothing of the timer. -/
def State.RunEnded (s : State) : Prop := s.cmds = [] ∧ s.seq.phase = .idle ∧ s.sched = []

/-- The timer disabled, nothing pending, no flag set, the sequencer idle: no agent but the main context has a step (R220). -/
def State.Quiescent (s : State) : Prop :=
  s.tCtrl.en = false ∧ s.irqPend = false ∧ s.flags = Tri.const false ∧ s.seq = ⟨.idle, 0⟩

end Machine

end Sys2Proof
end

