-- ==== Sys2Proof/Certificates/Slice0/Obligations.lean ====
section
/-!
DEFINITION. The statements for the provers. Each holds for every value of the parameters and every schedule, since both stand
in the state; the response a statement names is the newest entry of the history `out` (log entry 5), and a command fault is a
next state (log entry 4).
-/

open Sys2Proof Sys2Proof.Machine

/-! ### Encoding (R70 to R79) -/

/-- Every instruction, with every value of its operands, is read back from its encoding (R70 to R75, R77, R79). -/
def Obligations.DecodeOfEncodeIsIdentity : Prop := ∀ i : Instr, decode (encode i) = .ok i

/-- A word that decodes is the encoding of what it decodes to: no bit of it is dropped (R71, R77). -/
def Obligations.EncodeOfDecodeIsIdentity : Prop := ∀ (w : Word64) (i : Instr), decode w = .ok i → encode i = w

/-- The decoder, written from the formats of R71, accepts a word as an operation exactly when the mask and match of R77 select that operation;
hence no word is selected by two rows. -/
def Obligations.DecodeMatchesOpcodeTable : Prop :=
  ∀ (w : Word64) (op : Opcode), op.selects w = true ↔ ∃ i, decode w = .ok i ∧ i.opcode = op

/-- R78 and R79: a reserved opcode answers IllegalCommand 1, a legal opcode with a word no row selects answers IllegalCommand 2, and neither changes
any state. -/
def Obligations.IllegalWordsFaultByName : Prop :=
  ∀ (w : Word64) (s : State),
    (w.toNat / 2 ^ 56 = 0 ∨ 12 ≤ w.toNat / 2 ^ 56 → perform w s = .next (s.respond ⟨5#4, 1#32⟩)) ∧
      (1 ≤ w.toNat / 2 ^ 56 ∧ w.toNat / 2 ^ 56 ≤ 11 → (∀ op : Opcode, op.selects w = false) →
        perform w s = .next (s.respond ⟨5#4, 2#32⟩))

/-- Words written out in the spec's own examples decode to the commands they stand for, and the all-zero and all-ones words to none (R78, R102,
R154, R158, R172, R174). -/
def Obligations.ExampleWordsDecode : Prop :=
  decode 0x01010000000186A0#64 = .ok (.tinit 100000#32 1#2) ∧
    decode 0x0500000000000000#64 = .ok .run ∧
    decode 0x070200000009012C#64 = .ok (.varm 2#2 9#16 300#16) ∧
    decode 0x0A08020200000000#64 = .ok (.rdf 0x08#8 2#8 2#8) ∧
    decode 0x0B00001700000320#64 = .ok (.wrf 0x00#8 0#8 800#32 23#8) ∧
    decode 0x0000000000000000#64 = .error .reservedOpcode ∧
    decode 0xFFFFFFFFFFFFFFFF#64 = .error .reservedOpcode

/-! ### A step -/

/-- A step of the main context with an idle sequencer performs the host's next command: step is exec of the decoded instruction, at the state whose
turn and whose word are taken (R14, R24, R60). -/
def Obligations.StepPerformsHostCommand : Prop :=
  ∀ (s : State) (w : Word64) (ws : List Word64) (i : Instr),
    s.nextTurn = .main → s.seq.phase = .idle → s.cmds = w :: ws → decode w = .ok i →
      step s = exec i { s with cmds := ws, sched := s.sched.tail, turns := s.turns + 1 }

/-- A step of the main context in a callback performs the body's next command exactly as if the main context had issued it, and the position moves
on, whatever the command answers (R139). -/
def Obligations.StepPerformsBodyCommand : Prop :=
  ∀ (s : State) (g : Gran) (w : Word64) (i : Instr),
    s.nextTurn = .main → s.seq.phase = .cb g → (s.par.bodies.get g)[s.seq.pos]? = some w → decode w = .ok i →
      ∃ t, exec i { s with sched := s.sched.tail, turns := s.turns + 1 } = .next t ∧
        step s = .next { t with seq := ⟨.cb g, s.seq.pos + 1⟩ }

/-- An illegal word of the host, or of a body, answers its IllegalCommand fault and changes nothing else but the position in the body (R78,
R139). -/
def Obligations.StepAnswersIllegalWord : Prop :=
  ∀ (s : State) (w : Word64) (f : CmdFault), s.nextTurn = .main → decode w = .error f →
    (∀ ws, s.seq.phase = .idle → s.cmds = w :: ws →
      step s = .next
        { s with cmds := ws, sched := s.sched.tail, turns := s.turns + 1, out := .response (faultResponse f) :: s.out }) ∧
    (∀ g, s.seq.phase = .cb g → (s.par.bodies.get g)[s.seq.pos]? = some w →
      step s = .next
        { s with seq := ⟨.cb g, s.seq.pos + 1⟩, sched := s.sched.tail, turns := s.turns + 1,
                 out := .response (faultResponse f) :: s.out })

/-- The turn of an agent that is not enabled changes nothing but the schedule: the model's choice (log entry 2); T and D are enabled as R108 and R120
say, and M with nothing to issue has no step. -/
def Obligations.DisabledAgentTakesNoStep : Prop :=
  ∀ s : State,
    (s.nextTurn = .timer ∧ s.tCtrl.en = false) ∨ (s.nextTurn = .dispatcher ∧ s.irqPend = false) ∨
        (s.nextTurn = .main ∧ s.seq.phase = .idle ∧ s.cmds = []) →
      step s = .next { s with sched := s.sched.tail, turns := s.turns + 1 }

/-- A word placed by withFetchWord is what the very next step performs (log entry 3: the model's own loading of a command). -/
def Obligations.PresentedWordIsPerformedNext : Prop :=
  ∀ (s : State) (nbits w : Nat) (i : Instr), decodeTableWord nbits w = some i →
    step (s.withFetchWord nbits w) = exec i { s with seq := ⟨.idle, 0⟩, turns := s.turns + 1 }

/-! ### The timer and its driver (R100 to R111) -/

/-- TINIT with a reload count that fits: the registers, the counter and the latch of R102, nothing else, response (0, 0). -/
def Obligations.TinitProgramsTimer : Prop :=
  ∀ (s : State) (freq : Word32) (psel : Sel) (P R : Nat),
    (psel, P) ∈ divisors → freq ≠ 0#32 → R = s.par.clkHz / (P * freq.toNat) → 1 ≤ R → R ≤ 8388607 →
      exec (.tinit freq psel) s = .next
        { s with
          tLoad := BitVec.ofNat 23 R
          tCount := BitVec.ofNat 23 R
          tCtrl := ⟨true, true, psel⟩
          edge := true
          cfg := ⟨true, freq, psel, BitVec.ofNat 23 R⟩
          out := .response ⟨0#4, 0#32⟩ :: s.out }

/-- The four faults of TINIT in the order of R102 and R103, each leaving the timer exactly as it was. -/
def Obligations.TinitFaultsInOrder : Prop :=
  ∀ (s : State) (freq : Word32) (psel : Sel),
    (psel = 3#2 → exec (.tinit freq psel) s = .next (s.respond ⟨1#4, 4#32⟩)) ∧
      (psel ≠ 3#2 → freq = 0#32 → exec (.tinit freq psel) s = .next (s.respond ⟨1#4, 1#32⟩)) ∧
      (∀ P R : Nat, (psel, P) ∈ divisors → freq ≠ 0#32 → R = s.par.clkHz / (P * freq.toNat) →
        (R = 0 → exec (.tinit freq psel) s = .next (s.respond ⟨1#4, 2#32⟩)) ∧
          (8388607 < R → exec (.tinit freq psel) s = .next (s.respond ⟨1#4, 3#32⟩)))

/-- The register effects of TINIT are the six field writes that R102 lists, in its order; only the latch comes on top. -/
def Obligations.TinitEqualsSixFieldWrites : Prop :=
  ∀ (s : State) (freq : Word32) (psel : Sel) (P R : Nat),
    (psel, P) ∈ divisors → freq ≠ 0#32 → R = s.par.clkHz / (P * freq.toNat) → 1 ≤ R → R ≤ 8388607 →
      ∃ t u, exec (.tinit freq psel) s = .next t ∧
        execSeq
          [.wrf 0x08#8 7#8 0#32 1#8, .wrf 0x08#8 2#8 (psel.setWidth 32) 2#8, .wrf 0x00#8 0#8 (BitVec.ofNat 32 R) 23#8,
            .wrf 0x08#8 6#8 1#32 1#8, .wrf 0x08#8 7#8 1#32 1#8, .wrf 0x10#8 0#8 1#32 1#8] s = .next u ∧
        t.dtu = { u.dtu with cfg := ⟨true, freq, psel, BitVec.ofNat 23 R⟩ }

/-- TEN sets the run bit and TDIS clears it, and they change nothing else: not T_COUNT, not IRQ_PEND, not EDGE (R104, R105). -/
def Obligations.RunBitCommandsComplete : Prop :=
  ∀ s : State,
    exec .ten s = .next { s with tCtrl := { s.tCtrl with en := true }, out := .response ⟨0#4, 0#32⟩ :: s.out } ∧
      exec .tdis s = .next { s with tCtrl := { s.tCtrl with en := false }, out := .response ⟨0#4, 0#32⟩ :: s.out }

/-- TEN has exactly the effect of WRF T_CTRL, 7, 1, 1 and TDIS that of WRF T_CTRL, 7, 0, 1: the aliases TSTART and TSTOP (R82, R104, R105). -/
def Obligations.RunBitCommandsAreFieldWrites : Prop :=
  ∀ s : State, exec .ten s = exec Alias.tstart.expand s ∧ exec .tdis s = exec Alias.tstop.expand s

/-- R106: TEN(TEN(s)) = TEN(s), TDIS(TDIS(s)) = TDIS(s), TDIS(TEN(s)) = TDIS(s), TEN(TDIS(s)) = TEN(s), as states of the DTU (the history of the
ports has one response more). -/
def Obligations.RunBitIdempotence : Prop :=
  ∀ (s : State) (a b : Instr), a = .ten ∨ a = .tdis → b = .ten ∨ b = .tdis →
    ∃ t u, execSeq [a, b] s = .next t ∧ exec b s = .next u ∧ t.dtu = u.dtu

/-- T.TICK (R108): it refuses with PS = 3, AR = 0 or T_COUNT = 0; otherwise it decrements T_COUNT, and at zero reloads it and, with EDGE = 1, sets
IRQ_PEND; nothing else changes. With EN = 0 it is not enabled; that a turn given to it then answers a next state that moves only the schedule is the model's
choice (log entries 1 and 2). -/
def Obligations.TimerTickCounts : Prop :=
  ∀ s : State, s.nextTurn = .timer →
    (s.tCtrl.en = false → step s = .next { s with sched := s.sched.tail, turns := s.turns + 1 }) ∧
      (s.tCtrl.en = true → s.tCtrl.ps = 3#2 ∨ s.tCtrl.ar = false ∨ s.tCount = 0#23 → ∃ r, step s = .refused r) ∧
      (s.tCtrl.en = true → s.tCtrl.ps ≠ 3#2 → s.tCtrl.ar = true → 2 ≤ s.tCount.toNat →
        step s = .next { s with tCount := s.tCount - 1#23, sched := s.sched.tail, turns := s.turns + 1 }) ∧
      (s.tCtrl.en = true → s.tCtrl.ps ≠ 3#2 → s.tCtrl.ar = true → s.tCount = 1#23 →
        step s = .next
          { s with tCount := s.tLoad, irqPend := if s.edge then true else s.irqPend, sched := s.sched.tail,
                   turns := s.turns + 1 })

/-- No step is refused but a timer tick in one of the three states of R109, and each refusal names a state that holds (93, section 3: no other
refusals exist). -/
def Obligations.OnlyRefusedTicksRefuse : Prop :=
  ∀ (s : State) (r : Refusal), step s = .refused r →
    s.nextTurn = .timer ∧ s.tCtrl.en = true ∧
      ((r = .tickReservedPrescaler ∧ s.tCtrl.ps = 3#2) ∨ (r = .tickNoAutoReload ∧ s.tCtrl.ar = false) ∨
        (r = .tickAtZero ∧ s.tCount = 0#23))

/-- R109: none of the refused states is reachable through TINIT, TEN and TDIS: a configured timer stays configured in every step that is neither
a WRF nor a reset. -/
def Obligations.StepKeepsTimerConfigured : Prop :=
  ∀ s t : State, s.TimerConfigured → s.nextTurn ≠ .reset → (∀ i, s.performs = some i → i.isFieldWrite = false) →
    step s = .next t → t.TimerConfigured

/-- A successful TINIT produces a configured timer, and a configured timer's machine is never refused (R109). -/
def Obligations.TinitConfiguresTimer : Prop :=
  (∀ (s t : State) (freq : Word32) (psel : Sel), exec (.tinit freq psel) s = .next t →
      t.out = .response ⟨0#4, 0#32⟩ :: s.out → t.TimerConfigured) ∧
    ∀ (s : State) (r : Refusal), s.TimerConfigured → step s ≠ .refused r

/-- R110: while EN = 0 nothing changes T_COUNT except a write of T_LOAD (by TINIT or by WRF; reset apart). -/
def Obligations.DisabledTimerHoldsCount : Prop :=
  ∀ s t : State, s.tCtrl.en = false → s.nextTurn ≠ .reset →
    (∀ freq psel, s.performs ≠ some (.tinit freq psel)) →
    (∀ boff val wid, s.performs ≠ some (.wrf 0x00#8 boff val wid)) →
    step s = .next t → t.tCount = s.tCount

/-- The period law (R111): a step performs a successful TINIT with reload count R, and n steps of whatever agents follow, none of them a reset and none
a command that may write a timer register. Then all n answer next states; after k turns of the timer among them T_COUNT is R - k mod R; the next tick is an
expiry (it sets a clear IRQ_PEND) exactly when R divides its number k + 1; and if no turn of the dispatcher was among them, IRQ_PEND is set from the first
expiry on. -/
def Obligations.PeriodLaw : Prop :=
  ∀ (s t : State) (freq : Word32) (psel : Sel) (n : Nat), s.performs = some (.tinit freq psel) → step s = .next t →
    t.out = .response ⟨0#4, 0#32⟩ :: s.out →
    (∀ k < n, ∀ v, runFor k t = .next v → v.nextTurn ≠ .reset ∧ ∀ i, v.performs = some i → i.writesTimer = false) →
      ∃ u, runFor n t = .next u ∧
        u.tCount.toNat = t.cfg.reload.toNat - t.countTicks n % t.cfg.reload.toNat ∧
        (∃ v, timerTurn { u with irqPend := false } = .next v ∧
          (v.irqPend = true ↔ t.cfg.reload.toNat ∣ t.countTicks n + 1)) ∧
        ((∀ k < n, ∀ v, runFor k t = .next v → v.nextTurn ≠ .dispatcher) →
          u.irqPend = (t.irqPend || decide (t.cfg.reload.toNat ≤ t.countTicks n)))

/-! ### The dispatcher (R120 to R124) -/

/-- TDISP runs the handler: both cascade counters count down, a counter at 1 reloads and sets its flag, the fast flag is set always, and nothing
else changes (R121, R122). -/
def Obligations.TdispRunsHandler : Prop :=
  ∀ s : State,
    exec .tdisp s = .next
      { s with
        cascM := if s.cascM = 1#16 then s.par.mPeriod else s.cascM - 1#16
        cascS := if s.cascS = 1#16 then s.par.sPeriod else s.cascS - 1#16
        flags := ⟨true, s.flags.med || decide (s.cascM = 1#16), s.flags.slow || decide (s.cascS = 1#16)⟩
        out := .response ⟨0#4, 0#32⟩ :: s.out }

/-- D.IRQ with an interrupt pending clears it at entry and runs the same handler; nothing is saved and nothing else changes (R120, R121, R193). -/
def Obligations.InterruptRunsHandler : Prop :=
  ∀ s : State, s.nextTurn = .dispatcher → s.irqPend = true →
    step s = .next
      { s with
        irqPend := false
        cascM := if s.cascM = 1#16 then s.par.mPeriod else s.cascM - 1#16
        cascS := if s.cascS = 1#16 then s.par.sPeriod else s.cascS - 1#16
        flags := ⟨true, s.flags.med || decide (s.cascM = 1#16), s.flags.slow || decide (s.cascS = 1#16)⟩
        sched := s.sched.tail
        turns := s.turns + 1 }

/-- R123: from cascade counters at their periods, n runs of the handler set the fast flag n times, the medium flag n / M_PERIOD times and the slow flag
n / S_PERIOD times; and from CASC_M = c with 1 <= c <= M_PERIOD the medium flag is set on the runs c, c + M_PERIOD, c + 2 M_PERIOD, ... and on no
other, likewise the slow flag. -/
def Obligations.CountingLaw : Prop :=
  (∀ (s : State) (n : Nat), s.cascM = s.par.mPeriod → s.cascS = s.par.sPeriod → s.par.mPeriod ≠ 0#16 →
      s.par.sPeriod ≠ 0#16 →
      s.countSets .fast n = n ∧ s.countSets .med n = n / s.par.mPeriod.toNat ∧
        s.countSets .slow n = n / s.par.sPeriod.toNat) ∧
    ∀ (s : State) (n : Nat), s.CascadesInRange →
      ∃ t, execSeq (List.replicate n .tdisp) s = .next t ∧
        t.setsFlag .fast = true ∧
        (t.setsFlag .med = true ↔ ∃ k, n + 1 = s.cascM.toNat + k * s.par.mPeriod.toNat) ∧
        (t.setsFlag .slow = true ↔ ∃ k, n + 1 = s.cascS.toNat + k * s.par.sPeriod.toNat)

/-! ### The scheduler (R135 to R141) -/

/-- RUN is accepted exactly when the sequencer is idle, and answers IllegalCommand 3 otherwise; its acceptance changes RUNSEQ alone (R136). -/
def Obligations.RunIsAcceptedWhenIdle : Prop :=
  ∀ s : State,
    (s.seq.phase = .idle → exec .run s = .next { s with seq := ⟨.take .fast, 0⟩ }) ∧
      (s.seq.phase ≠ .idle → exec .run s = .next (s.respond ⟨5#4, 3#32⟩))

/-- TAKE(g) with the flag set clears it, sweeps the pool if DEC_IN_SCHED, pulses the strobe once and enters the callback, in one step; with the flag
clear it moves on, and RUN answers after the last granularity (R136, R137, R138). -/
def Obligations.TakeConsumesFlag : Prop :=
  ∀ (s : State) (g : Gran), s.nextTurn = .main → s.seq.phase = .take g →
    (s.flags.get g = true →
      step s = .next
        { s with
          flags := s.flags.set g false
          vc := if s.par.decInSched then s.vc.set g ((s.vc.get g).map sweepSlot) else s.vc
          out := .strobe g :: s.out
          seq := ⟨.cb g, 0⟩
          sched := s.sched.tail
          turns := s.turns + 1 }) ∧
    (s.flags.get g = false →
      step s = .next
        { s with
          seq := ⟨phaseAfter g, 0⟩
          out := if g = .slow then .response ⟨0#4, 0#32⟩ :: s.out else s.out
          sched := s.sched.tail
          turns := s.turns + 1 })

/-- When the body is used up the callback returns: RUNSEQ moves on, and RUN answers after the last granularity (R139). -/
def Obligations.CallbackReturns : Prop :=
  ∀ (s : State) (g : Gran), s.nextTurn = .main → s.seq.phase = .cb g → (s.par.bodies.get g).length ≤ s.seq.pos →
    step s = .next
      { s with
        seq := ⟨phaseAfter g, 0⟩
        out := if g = .slow then .response ⟨0#4, 0#32⟩ :: s.out else s.out
        sched := s.sched.tail
        turns := s.turns + 1 }

/-- A whole pass of RUN with empty bodies takes three steps and one more per set flag; it clears every flag, sweeps exactly the pools of the set
flags if DEC_IN_SCHED, pulses exactly their strobes in the order fast, medium, slow, and then answers (0, 0) (R135 to R139). -/
def Obligations.RunPassWithEmptyBodies : Prop :=
  ∀ s : State, s.seq = ⟨.take .fast, 0⟩ → s.par.bodies = Tri.const [] →
    turnSeq (List.replicate (3 + (s.flags.fast.toNat + s.flags.med.toNat + s.flags.slow.toNat)) .main) s = .next
      { s with
        flags := Tri.const false
        vc :=
          ⟨if s.flags.fast && s.par.decInSched then s.vc.fast.map sweepSlot else s.vc.fast,
            if s.flags.med && s.par.decInSched then s.vc.med.map sweepSlot else s.vc.med,
            if s.flags.slow && s.par.decInSched then s.vc.slow.map sweepSlot else s.vc.slow⟩
        seq := ⟨.idle, 0⟩
        out :=
          .response ⟨0#4, 0#32⟩ ::
            ((if s.flags.slow then [.strobe .slow] else []) ++ (if s.flags.med then [.strobe .med] else []) ++
              (if s.flags.fast then [.strobe .fast] else []) ++ s.out) }

/-- A callback body is performed to its end whatever its commands answer: after one turn per remaining word and one for the return the sequencer has
moved on, and the entries added to the history are responses, one per word, and RUN's (0, 0) as the newest after the last granularity (R136, R139). -/
def Obligations.CallbackBodyCompletes : Prop :=
  ∀ (s : State) (g : Gran), s.seq.phase = .cb g → s.seq.pos ≤ (s.par.bodies.get g).length →
    ∃ (t : State) (rs : List Response),
      turnSeq (List.replicate ((s.par.bodies.get g).length - s.seq.pos + 1) .main) s = .next t ∧
        t.seq = ⟨phaseAfter g, 0⟩ ∧
        rs.length = (s.par.bodies.get g).length - s.seq.pos ∧
        t.out = (if g = .slow then [.response ⟨0#4, 0#32⟩] else []) ++ rs.map .response ++ s.out

/-- RUN always completes: from its acceptance, within six turns of the main context and one more per word of the bodies, the sequencer is idle again, at that
moment and not before, and at that moment RUN gives its response (0, 0), the only one besides those of the bodies' words (R136). -/
def Obligations.EveryRunCompletes : Prop :=
  ∀ s : State, s.seq = ⟨.take .fast, 0⟩ →
    ∃ n t,
      n + 1 ≤ 6 + (s.par.bodies.fast.length + s.par.bodies.med.length + s.par.bodies.slow.length) ∧ s.RunEndsWith n t

/-- The hand-off of R140: outside a handler run, pulses plus the flag stay constant, so that a set flag gives exactly one pulse when it is consumed and a
clear one none; a handler run pulses nothing. -/
def Obligations.StrobesAccountForTicks : Prop :=
  ∀ (s t : State) (g : Gran), step s = .next t → s.nextTurn ≠ .reset →
    (¬s.runsHandler → t.strobes g + (t.flags.get g).toNat = s.strobes g + (s.flags.get g).toNat) ∧
      (s.runsHandler → t.strobes g = s.strobes g)

/-! ### The virtual counters (R150 to R161) -/

/-- VINIT makes every slot of every pool value 1, armed 0, and changes nothing else (R152). -/
def Obligations.VinitMakesSlotsInitial : Prop :=
  ∀ s : State,
    exec .vinit s = .next
      { s with
        vc :=
          ⟨List.replicate (s.cap .fast) ⟨1#16, false⟩, List.replicate (s.cap .med) ⟨1#16, false⟩,
            List.replicate (s.cap .slow) ⟨1#16, false⟩⟩
        out := .response ⟨0#4, 0#32⟩ :: s.out }

/-- VARM of a slot that exists gives it value ticks, armed 1, whatever it held, leaves every other slot and the capacities alone, and changes
nothing else (R154). -/
def Obligations.VarmArmsOneSlot : Prop :=
  ∀ (s : State) (p : Gran) (index ticks : Half), index.toNat < s.cap p →
    ∃ t, exec (.varm (selOf p) index ticks) s = .next t ∧
      t.slotAt p index.toNat = ⟨ticks, true⟩ ∧
      (∀ q j, ¬(q = p ∧ j = index.toNat) → t.slotAt q j = s.slotAt q j) ∧
      (∀ q, t.cap q = s.cap q) ∧
      t = { s with vc := t.vc, out := .response ⟨0#4, 0#32⟩ :: s.out }

/-- R153: pool selector 3 answers IndexError 1, before the index is looked at; an index at or above the capacity answers IndexError 2; VDEC checks
only the selector; nothing is written. -/
def Obligations.SlotAddressChecks : Prop :=
  ∀ (s : State) (index ticks : Half),
    (exec (.varm 3#2 index ticks) s = .next (s.respond ⟨2#4, 1#32⟩) ∧
        exec (.vqry 3#2 index) s = .next (s.respond ⟨2#4, 1#32⟩) ∧
        exec (.vdec 3#2) s = .next (s.respond ⟨2#4, 1#32⟩)) ∧
      ∀ p : Gran, s.cap p ≤ index.toNat →
        exec (.varm (selOf p) index ticks) s = .next (s.respond ⟨2#4, 2#32⟩) ∧
          exec (.vqry (selOf p) index) s = .next (s.respond ⟨2#4, 2#32⟩)

/-- VDEC sweeps its pool: an armed slot counts down, saturating at zero, and the sweep that leaves value 0 clears armed; an unarmed slot, every other
pool and everything else stay as they were (R155, R156, R160). -/
def Obligations.VdecSweepsOnePool : Prop :=
  ∀ (s : State) (p : Gran),
    ∃ t, exec (.vdec (selOf p)) s = .next t ∧
      (∀ q j, t.slotAt q j =
        if q = p ∧ (s.slotAt q j).armed = true then
          ⟨if (s.slotAt q j).value = 0#16 then 0#16 else (s.slotAt q j).value - 1#16,
            decide (2 ≤ (s.slotAt q j).value.toNat)⟩
        else s.slotAt q j) ∧
      (∀ q, t.cap q = s.cap q) ∧
      t = { s with vc := t.vc, out := .response ⟨0#4, 0#32⟩ :: s.out }

/-- VQRY of a slot that exists answers armed in RDATA[16], value in RDATA[15:0], 0 above, and writes nothing (R158). -/
def Obligations.VqryReturnsSlot : Prop :=
  ∀ (s : State) (p : Gran) (index : Half), index.toNat < s.cap p →
    ∃ d : Word32, exec (.vqry (selOf p) index) s = .next { s with out := .response ⟨0#4, d⟩ :: s.out } ∧
      d.toNat = (s.slotAt p index.toNat).armed.toNat * 65536 + (s.slotAt p index.toNat).value.toNat

/-- After VARM with T >= 1, commands that contain exactly k VDEC of that pool and neither a VARM of that slot nor a VINIT leave value T - k, armed 1 if
k < T, and value 0, armed 0 if k >= T. The state before the VARM is any, so re-arming restarts the law (R159). -/
def Obligations.CountdownOfCommands : Prop :=
  ∀ (s : State) (p : Gran) (index T : Half) (l : List Instr), index.toNat < s.cap p → 1 ≤ T.toNat →
    (∀ c ∈ l, c ≠ .vinit ∧ ∀ x, c ≠ .varm (selOf p) index x) →
      ∃ t, execSeq (.varm (selOf p) index T :: l) s = .next t ∧
        t.slotAt p index.toNat =
          if l.count (.vdec (selOf p)) < T.toNat then ⟨BitVec.ofNat 16 (T.toNat - l.count (.vdec (selOf p))), true⟩
          else ⟨0#16, false⟩

/-- R159: a step arms a slot with T >= 1; n steps of whatever agents follow, k of them sweeps of its pool by VDEC or inside RUN, none of them a VARM of
that slot, a VINIT or a reset. Then the slot is value T - k, armed 1 if k < T, and value 0, armed 0 if k >= T. The state before the arming is any, so
re-arming restarts the law. -/
def Obligations.CountdownLaw : Prop :=
  ∀ (s t u : State) (p : Gran) (index T : Half) (n : Nat), index.toNat < s.cap p → 1 ≤ T.toNat →
    s.performs = some (.varm (selOf p) index T) → step s = .next t →
    (∀ k < n, ∀ v, runFor k t = .next v → ¬v.rewritesSlot p index) → runFor n t = .next u →
      u.slotAt p index.toNat =
        if t.countSweeps p n < T.toNat then ⟨BitVec.ofNat 16 (T.toNat - t.countSweeps p n), true⟩ else ⟨0#16, false⟩

/-- R160: VARM with ticks = 0 gives value 0, armed 1; the next sweep, by VDEC or inside RUN, does not decrement it and clears armed, exactly as if it had
been armed with 1. -/
def Obligations.ArmedWithZeroExpiresAtFirstSweep : Prop :=
  (∀ (s : State) (p : Gran) (index : Half), index.toNat < s.cap p →
    ∃ t u v, exec (.varm (selOf p) index 0#16) s = .next t ∧ t.slotAt p index.toNat = ⟨0#16, true⟩ ∧
      exec (.vdec (selOf p)) t = .next u ∧ u.slotAt p index.toNat = ⟨0#16, false⟩ ∧
      execSeq [.varm (selOf p) index 1#16, .vdec (selOf p)] s = .next v ∧
      v.slotAt p index.toNat = u.slotAt p index.toNat) ∧
    ∀ (s t : State) (p : Gran) (i : Nat), i < s.cap p → s.sweepsPool p = true →
      s.slotAt p i = ⟨0#16, true⟩ ∨ s.slotAt p i = ⟨1#16, true⟩ → step s = .next t → t.slotAt p i = ⟨0#16, false⟩

/-! ### Register fields (R170 to R175) -/

/-- What each register reads as, bit by bit: the bits that exist at their positions, 0 in every reserved bit (R26 to R30, R52). -/
def Obligations.RegistersReadAsLaidOut : Prop :=
  ∀ (s : State) (k : Nat),
    (s.readReg .tLoad).getLsbD k = (decide (k < 23) && s.tLoad.getLsbD k) ∧
      (s.readReg .tCount).getLsbD k = (decide (k < 23) && s.tCount.getLsbD k) ∧
      (s.readReg .tCtrl).getLsbD k =
        (if k = 7 then s.tCtrl.en else if k = 6 then s.tCtrl.ar
         else if k = 3 then s.tCtrl.ps.getLsbD 1 else if k = 2 then s.tCtrl.ps.getLsbD 0 else false) ∧
      (s.readReg .tIntType).getLsbD k = (decide (k = 0) && s.edge)

/-- RDF of a mapped register and a field that lies inside it answers the field's bits, least significant first and 0 above, and writes nothing
(R170, R172). -/
def Obligations.RdfReturnsField : Prop :=
  ∀ (s : State) (r : Reg) (boff wid : Byte), FieldInside boff wid →
    ∃ d : Word32, exec (.rdf (offsetOf r) boff wid) s = .next { s with out := .response ⟨0#4, d⟩ :: s.out } ∧
      ∀ k < 32, d.getLsbD k = (decide (k < wid.toNat) && (s.readReg r).getLsbD (boff.toNat + k))

/-- R173: the five checks of RDF and WRF in their order, each answering its fault and touching nothing. -/
def Obligations.FieldChecksInOrder : Prop :=
  ∀ (s : State) (off boff wid : Byte) (val : Word32),
    (off.toNat % 4 ≠ 0 →
      exec (.rdf off boff wid) s = .next (s.respond ⟨3#4, 1#32⟩) ∧
        exec (.wrf off boff val wid) s = .next (s.respond ⟨3#4, 1#32⟩)) ∧
    (off.toNat % 4 = 0 → off.toNat ∉ [0x00, 0x04, 0x08, 0x10] →
      exec (.rdf off boff wid) s = .next (s.respond ⟨3#4, 2#32⟩) ∧
        exec (.wrf off boff val wid) s = .next (s.respond ⟨3#4, 2#32⟩)) ∧
    (off.toNat = 0x04 → exec (.wrf off boff val wid) s = .next (s.respond ⟨3#4, 3#32⟩)) ∧
    (wid.toNat = 0 ∨ 32 < wid.toNat →
      (off.toNat ∈ [0x00, 0x04, 0x08, 0x10] → exec (.rdf off boff wid) s = .next (s.respond ⟨4#4, 1#32⟩)) ∧
        (off.toNat ∈ [0x00, 0x08, 0x10] → exec (.wrf off boff val wid) s = .next (s.respond ⟨4#4, 1#32⟩))) ∧
    (1 ≤ wid.toNat → wid.toNat ≤ 32 → 31 < boff.toNat ∨ 32 < boff.toNat + wid.toNat →
      (off.toNat ∈ [0x00, 0x04, 0x08, 0x10] → exec (.rdf off boff wid) s = .next (s.respond ⟨4#4, 2#32⟩)) ∧
        (off.toNat ∈ [0x00, 0x08, 0x10] → exec (.wrf off boff val wid) s = .next (s.respond ⟨4#4, 2#32⟩)))

/-- WRF of a writable register and a field that lies inside it: the implemented bits of the field take val's low bits, every other bit of the
register stays, a write of T_LOAD also loads T_COUNT, every other register stays, and nothing else changes (R30, R53, R174). -/
def Obligations.WrfWritesField : Prop :=
  ∀ (s : State) (r : Reg) (boff wid : Byte) (val : Word32), r ≠ .tCount → FieldInside boff wid →
    ∃ t, exec (.wrf (offsetOf r) boff val wid) s = .next t ∧
      (∀ k < 32, (t.readReg r).getLsbD k =
        if boff.toNat ≤ k ∧ k < boff.toNat + wid.toNat then implemented r k && val.getLsbD (k - boff.toNat)
        else (s.readReg r).getLsbD k) ∧
      t.tCount = (if r = .tLoad then t.tLoad else s.tCount) ∧
      (∀ q, q ≠ r → q ≠ .tCount → t.readReg q = s.readReg q) ∧
      t = { s with tLoad := t.tLoad, tCount := t.tCount, tCtrl := t.tCtrl, edge := t.edge,
                   out := .response ⟨0#4, 0#32⟩ :: s.out }

/-- R171: the mask of a field inside a register has ones exactly in the field, and no bit is lost at width 32. -/
def Obligations.FieldMaskCoversField : Prop :=
  ∀ boff wid : Nat, 1 ≤ wid → wid ≤ 32 → boff + wid ≤ 32 →
    (fieldMask boff wid).toNat = (2 ^ wid - 1) * 2 ^ boff ∧
      ∀ k, (fieldMask boff wid).getLsbD k = decide (boff ≤ k ∧ k < boff + wid)

/-- R175: WRF of v and then RDF of the same field returns v, whatever timer ticks and dispatcher runs fall between (bits of v on reserved positions
come back cleared), and the bits of the register outside the field are the same before and after. -/
def Obligations.FieldRoundTrip : Prop :=
  ∀ (s t u : State) (r : Reg) (boff wid : Byte) (v : Word32) (l : List Turn), r ≠ .tCount → FieldInside boff wid →
    v.toNat < 2 ^ wid.toNat → exec (.wrf (offsetOf r) boff v wid) s = .next t →
    (∀ a ∈ l, a = .timer ∨ a = .dispatcher) → turnSeq l t = .next u →
      ∃ d : Word32, exec (.rdf (offsetOf r) boff wid) u = .next { u with out := .response ⟨0#4, d⟩ :: u.out } ∧
        (∀ k < 32, d.getLsbD k = (implemented r (boff.toNat + k) && v.getLsbD k)) ∧
        ((∀ k, boff.toNat ≤ k → k < boff.toNat + wid.toNat → implemented r k = true) → d = v) ∧
        ∀ k < 32, ¬(boff.toNat ≤ k ∧ k < boff.toNat + wid.toNat) →
          (u.readReg r).getLsbD k = (s.readReg r).getLsbD k

/-! ### Responses and faults (R76, R185 to R189) -/

/-- R186: a command word whose response carries a fault changes no state at all. -/
def Obligations.FaultsChangeNoState : Prop :=
  ∀ (w : Word64) (s t : State) (r : Response), perform w s = .next t → t.out = .response r :: s.out →
    r.status ≠ 0#4 → t = { s with out := t.out }

/-- R76: every command word gives exactly one response, with a status of 0 to 5 and, in a fault, the subcode alone in RDATA. An accepted RUN gives none
at its acceptance and exactly one later, (0, 0), in the turn of the main context that makes the sequencer idle again (R136). -/
def Obligations.EveryCommandAnswersOnce : Prop :=
  ∀ (w : Word64) (s : State),
    ∃ t, perform w s = .next t ∧
      ((∃ r, t.out = .response r :: s.out ∧ r.status.toNat ≤ 5 ∧ (r.status ≠ 0#4 → r.rdata.toNat < 256)) ∨
        (decode w = .ok .run ∧ s.seq.phase = .idle ∧ t.out = s.out ∧ ∃ n u, t.RunEndsWith n u))

/-- A response with STATUS other than 0 is one of the faults that R187 lets the word's operation raise, with its status in bits [35:32] and its subcode
in bits [7:0]; TEN, TDIS, TDISP and VINIT raise none (R76, R187). -/
def Obligations.EveryFaultIsOfItsOperation : Prop :=
  ∀ (w : Word64) (s t : State) (r : Response), perform w s = .next t → t.out = .response r :: s.out →
    r.status ≠ 0#4 → r.bits.toNat ∈ faultCodes ((decode w).toOption.map Instr.opcode)

/-! ### What a command leaves unchanged -/

/-- The frame of every command: the parameters, the host's side and IRQ_PEND always stay; RUNSEQ changes only in RUN, the cascade counters and the flags
only in TDISP, the latch only in TINIT, the timer registers only in TINIT, TEN, TDIS and WRF, the slots only in VINIT, VARM and VDEC (R23, R197). -/
def Obligations.CommandFrame : Prop :=
  ∀ (i : Instr) (s t : State), exec i s = .next t →
    (t.par = s.par ∧ t.cmds = s.cmds ∧ t.sched = s.sched ∧ t.turns = s.turns ∧ t.irqPend = s.irqPend ∧ t.caps = s.caps) ∧
      (i ≠ .run → t.seq = s.seq) ∧
      (i ≠ .tdisp → t.cascM = s.cascM ∧ t.cascS = s.cascS ∧ t.flags = s.flags) ∧
      ((∀ freq psel, i ≠ .tinit freq psel) → t.cfg = s.cfg) ∧
      (i.writesTimer = false → t.tLoad = s.tLoad ∧ t.tCount = s.tCount ∧ t.tCtrl = s.tCtrl ∧ t.edge = s.edge) ∧
      (i.writesSlots = false → t.vc = s.vc)

/-! ### Who may touch what: rules about every step (R197) -/

/-- Outside a handler run and a reset no step changes a cascade counter or sets a flag, and only TAKE(g) clears FLAG[g] (R21, R25, R197). -/
def Obligations.OnlyHandlerSetsFlags : Prop :=
  ∀ s t : State, step s = .next t → s.nextTurn ≠ .reset →
    (¬s.runsHandler →
      t.cascM = s.cascM ∧ t.cascS = s.cascS ∧ ∀ g, t.flags.get g = true → s.flags.get g = true) ∧
      ∀ g, s.flags.get g = true → t.flags.get g = false → s.nextTurn = .main ∧ s.seq.phase = .take g

/-- Only an expiry of the timer with EDGE = 1 sets IRQ_PEND, and only the dispatcher's entry or a reset clears it (R33, R190). -/
def Obligations.PendingInterruptWriters : Prop :=
  ∀ s t : State, step s = .next t →
    (s.irqPend = false → t.irqPend = true → s.nextTurn = .timer ∧ s.tCtrl.en = true ∧ s.edge = true ∧ s.tCount = 1#23) ∧
      (s.irqPend = true → t.irqPend = false → s.nextTurn = .dispatcher ∨ s.nextTurn = .reset)

/-- Only TINIT, TEN, TDIS and WRF write T_LOAD, T_CTRL and T_INTTYPE; only those and the timer's tick write T_COUNT; only TINIT writes the latch
(R22, R27, R175, R197; reset apart). -/
def Obligations.OnlyDriverWritesTimerRegisters : Prop :=
  ∀ s t : State, step s = .next t → s.nextTurn ≠ .reset →
    ((∀ i, s.performs = some i → i.writesTimer = false) →
      t.tLoad = s.tLoad ∧ t.tCtrl = s.tCtrl ∧ t.edge = s.edge ∧ (s.nextTurn ≠ .timer → t.tCount = s.tCount)) ∧
      ((∀ freq psel, s.performs ≠ some (.tinit freq psel)) → t.cfg = s.cfg)

/-- The timer and the dispatcher never touch a pool; a step of the main context changes one only by VINIT, VARM, VDEC or the sweep inside TAKE; and no
step at all changes a capacity or a parameter (R31, R157, R197). -/
def Obligations.OnlyMainContextWritesPools : Prop :=
  ∀ s t : State, step s = .next t →
    (s.nextTurn ≠ .reset → (∀ i, s.performs = some i → i.writesSlots = false) →
      (s.nextTurn = .main → ∀ g, s.seq.phase ≠ .take g) → t.vc = s.vc) ∧
      t.caps = s.caps ∧ t.par = s.par

/-! ### Reset and invariants -/

/-- R36: the state after reset, for every value of the parameters and capacities. -/
def Obligations.ResetStateOfTable : Prop :=
  ∀ (par : Params) (caps : Tri Nat) (s : State), s = State.resetWith par caps →
    s.cascM = par.mPeriod ∧ s.cascS = par.sPeriod ∧ s.cfg = ⟨false, 0#32, 0#2, 0#23⟩ ∧ s.seq = ⟨.idle, 0⟩ ∧
      s.flags = ⟨false, false, false⟩ ∧ s.tLoad = 0#23 ∧ s.tCount = 0#23 ∧ s.tCtrl = ⟨false, false, 0#2⟩ ∧
      s.edge = false ∧ (∀ p i, i < s.cap p → s.slotAt p i = ⟨1#16, false⟩) ∧ (∀ p, s.cap p = caps.get p) ∧
      s.irqPend = false

/-- The reset input brings the DTU from any state to the state after reset, with its parameters and capacities, and gives no response (R215; that
the histories and the host's words stay is the model's choice, log entry 8). -/
def Obligations.ResetTurnRestoresResetState : Prop :=
  ∀ s : State, s.nextTurn = .reset →
    ∃ t, step s = .next t ∧ t.dtu = (State.resetWith s.par s.caps).dtu ∧ t.out = s.out ∧ t.cmds = s.cmds

/-- The invariant holds right after reset, for every value of the parameters in range. -/
def Obligations.InvariantHoldsAtReset : Prop :=
  ∀ (par : Params) (caps : Tri Nat), par.wf = true → capsWf caps = true → (State.resetWith par caps).Inv

/-- Every step keeps the invariant: cascade counters in 1 to their period, RUNSEQ inside its body, unarmed slots at 1 or 0, statuses 0 to 5, parameters
and capacities in range (R21, R24, R76, R151). -/
def Obligations.StepKeepsInvariant : Prop := ∀ s t : State, s.Inv → step s = .next t → t.Inv

/-- R22: in every step that is no WRF to T_LOAD or T_CTRL, a latch that describes the timer goes on describing it. -/
def Obligations.StepKeepsLatchDescribingTimer : Prop :=
  ∀ s t : State, s.LatchDescribesTimer →
    (∀ boff val wid, s.performs ≠ some (.wrf 0x00#8 boff val wid)) →
    (∀ boff val wid, s.performs ≠ some (.wrf 0x08#8 boff val wid)) →
    step s = .next t → t.LatchDescribesTimer

/-- The state after reset is quiescent, and in a quiescent state no agent has a step of its own: only a command of the host or a reset changes anything but
the schedule (R216, R220). That a turn given to an agent without a step answers a next state that moves only the schedule is the model's choice (log entry
2). -/
def Obligations.QuiescentStateStaysPut : Prop :=
  (∀ (par : Params) (caps : Tri Nat), (State.resetWith par caps).Quiescent) ∧
    ∀ s : State, s.Quiescent → s.nextTurn ≠ .reset → (s.nextTurn = .main → s.cmds = []) →
      step s = .next { s with sched := s.sched.tail, turns := s.turns + 1 }
end

