-- ==== Sys2Proof/Laws/State.lean ====
section
/-!
SUPPORT. The small lemmas of State's named updates: one per field per update, true by rfl, so that no later proof unfolds
a record update; and those of Tri.
-/

namespace Sys2Proof

/-! ### Tri -/

@[simp] theorem Tri.get_set_same {α : Type} (t : Tri α) (g : Gran) (x : α) : (t.set g x).get g = x := by cases g <;> rfl

theorem Tri.get_set_of_ne {α : Type} (t : Tri α) {g h : Gran} (x : α) (hne : h ≠ g) : (t.set g x).get h = t.get h := by
  cases g <;> cases h <;> first | rfl | exact absurd rfl hne

theorem Tri.get_set {α : Type} (t : Tri α) (g h : Gran) (x : α) : (t.set g x).get h = if h = g then x else t.get h := by
  cases g <;> cases h <;> rfl

@[simp] theorem Tri.set_get_self {α : Type} (t : Tri α) (g : Gran) : t.set g (t.get g) = t := by cases g <;> rfl

@[simp] theorem Tri.get_const {α : Type} (x : α) (g : Gran) : (Tri.const x).get g = x := by cases g <;> rfl

@[simp] theorem Tri.get_map {α β : Type} (f : α → β) (t : Tri α) (g : Gran) : (t.map f).get g = f (t.get g) := by
  cases g <;> rfl

theorem Tri.ext_get {α : Type} {t u : Tri α} (h : ∀ g, t.get g = u.get g) : t = u := by
  cases t; cases u; simpa using ⟨h .fast, h .med, h .slow⟩

namespace Machine


/-! ### State.respond -/

@[simp] theorem State.respond_cascM (s : State) (r : Response) : (s.respond r).cascM = s.cascM := rfl
@[simp] theorem State.respond_cascS (s : State) (r : Response) : (s.respond r).cascS = s.cascS := rfl
@[simp] theorem State.respond_cfg (s : State) (r : Response) : (s.respond r).cfg = s.cfg := rfl
@[simp] theorem State.respond_seq (s : State) (r : Response) : (s.respond r).seq = s.seq := rfl
@[simp] theorem State.respond_flags (s : State) (r : Response) : (s.respond r).flags = s.flags := rfl
@[simp] theorem State.respond_tLoad (s : State) (r : Response) : (s.respond r).tLoad = s.tLoad := rfl
@[simp] theorem State.respond_tCount (s : State) (r : Response) : (s.respond r).tCount = s.tCount := rfl
@[simp] theorem State.respond_tCtrl (s : State) (r : Response) : (s.respond r).tCtrl = s.tCtrl := rfl
@[simp] theorem State.respond_edge (s : State) (r : Response) : (s.respond r).edge = s.edge := rfl
@[simp] theorem State.respond_vc (s : State) (r : Response) : (s.respond r).vc = s.vc := rfl
@[simp] theorem State.respond_irqPend (s : State) (r : Response) : (s.respond r).irqPend = s.irqPend := rfl
@[simp] theorem State.respond_out (s : State) (r : Response) : (s.respond r).out = .response r :: s.out := rfl
@[simp] theorem State.respond_par (s : State) (r : Response) : (s.respond r).par = s.par := rfl
@[simp] theorem State.respond_cmds (s : State) (r : Response) : (s.respond r).cmds = s.cmds := rfl
@[simp] theorem State.respond_sched (s : State) (r : Response) : (s.respond r).sched = s.sched := rfl
@[simp] theorem State.respond_turns (s : State) (r : Response) : (s.respond r).turns = s.turns := rfl

/-! ### State.pulse -/

@[simp] theorem State.pulse_cascM (s : State) (g : Gran) : (s.pulse g).cascM = s.cascM := rfl
@[simp] theorem State.pulse_cascS (s : State) (g : Gran) : (s.pulse g).cascS = s.cascS := rfl
@[simp] theorem State.pulse_cfg (s : State) (g : Gran) : (s.pulse g).cfg = s.cfg := rfl
@[simp] theorem State.pulse_seq (s : State) (g : Gran) : (s.pulse g).seq = s.seq := rfl
@[simp] theorem State.pulse_flags (s : State) (g : Gran) : (s.pulse g).flags = s.flags := rfl
@[simp] theorem State.pulse_tLoad (s : State) (g : Gran) : (s.pulse g).tLoad = s.tLoad := rfl
@[simp] theorem State.pulse_tCount (s : State) (g : Gran) : (s.pulse g).tCount = s.tCount := rfl
@[simp] theorem State.pulse_tCtrl (s : State) (g : Gran) : (s.pulse g).tCtrl = s.tCtrl := rfl
@[simp] theorem State.pulse_edge (s : State) (g : Gran) : (s.pulse g).edge = s.edge := rfl
@[simp] theorem State.pulse_vc (s : State) (g : Gran) : (s.pulse g).vc = s.vc := rfl
@[simp] theorem State.pulse_irqPend (s : State) (g : Gran) : (s.pulse g).irqPend = s.irqPend := rfl
@[simp] theorem State.pulse_out (s : State) (g : Gran) : (s.pulse g).out = .strobe g :: s.out := rfl
@[simp] theorem State.pulse_par (s : State) (g : Gran) : (s.pulse g).par = s.par := rfl
@[simp] theorem State.pulse_cmds (s : State) (g : Gran) : (s.pulse g).cmds = s.cmds := rfl
@[simp] theorem State.pulse_sched (s : State) (g : Gran) : (s.pulse g).sched = s.sched := rfl
@[simp] theorem State.pulse_turns (s : State) (g : Gran) : (s.pulse g).turns = s.turns := rfl

/-! ### State.enterInterrupt -/

@[simp] theorem State.enterInterrupt_cascM (s : State) : (s.enterInterrupt).cascM = s.cascM := rfl
@[simp] theorem State.enterInterrupt_cascS (s : State) : (s.enterInterrupt).cascS = s.cascS := rfl
@[simp] theorem State.enterInterrupt_cfg (s : State) : (s.enterInterrupt).cfg = s.cfg := rfl
@[simp] theorem State.enterInterrupt_seq (s : State) : (s.enterInterrupt).seq = s.seq := rfl
@[simp] theorem State.enterInterrupt_flags (s : State) : (s.enterInterrupt).flags = s.flags := rfl
@[simp] theorem State.enterInterrupt_tLoad (s : State) : (s.enterInterrupt).tLoad = s.tLoad := rfl
@[simp] theorem State.enterInterrupt_tCount (s : State) : (s.enterInterrupt).tCount = s.tCount := rfl
@[simp] theorem State.enterInterrupt_tCtrl (s : State) : (s.enterInterrupt).tCtrl = s.tCtrl := rfl
@[simp] theorem State.enterInterrupt_edge (s : State) : (s.enterInterrupt).edge = s.edge := rfl
@[simp] theorem State.enterInterrupt_vc (s : State) : (s.enterInterrupt).vc = s.vc := rfl
@[simp] theorem State.enterInterrupt_irqPend (s : State) : (s.enterInterrupt).irqPend = false := rfl
@[simp] theorem State.enterInterrupt_out (s : State) : (s.enterInterrupt).out = s.out := rfl
@[simp] theorem State.enterInterrupt_par (s : State) : (s.enterInterrupt).par = s.par := rfl
@[simp] theorem State.enterInterrupt_cmds (s : State) : (s.enterInterrupt).cmds = s.cmds := rfl
@[simp] theorem State.enterInterrupt_sched (s : State) : (s.enterInterrupt).sched = s.sched := rfl
@[simp] theorem State.enterInterrupt_turns (s : State) : (s.enterInterrupt).turns = s.turns := rfl

/-! ### State.writeLoad -/

@[simp] theorem State.writeLoad_cascM (s : State) (v : Count) : (s.writeLoad v).cascM = s.cascM := rfl
@[simp] theorem State.writeLoad_cascS (s : State) (v : Count) : (s.writeLoad v).cascS = s.cascS := rfl
@[simp] theorem State.writeLoad_cfg (s : State) (v : Count) : (s.writeLoad v).cfg = s.cfg := rfl
@[simp] theorem State.writeLoad_seq (s : State) (v : Count) : (s.writeLoad v).seq = s.seq := rfl
@[simp] theorem State.writeLoad_flags (s : State) (v : Count) : (s.writeLoad v).flags = s.flags := rfl
@[simp] theorem State.writeLoad_tLoad (s : State) (v : Count) : (s.writeLoad v).tLoad = v := rfl
@[simp] theorem State.writeLoad_tCount (s : State) (v : Count) : (s.writeLoad v).tCount = v := rfl
@[simp] theorem State.writeLoad_tCtrl (s : State) (v : Count) : (s.writeLoad v).tCtrl = s.tCtrl := rfl
@[simp] theorem State.writeLoad_edge (s : State) (v : Count) : (s.writeLoad v).edge = s.edge := rfl
@[simp] theorem State.writeLoad_vc (s : State) (v : Count) : (s.writeLoad v).vc = s.vc := rfl
@[simp] theorem State.writeLoad_irqPend (s : State) (v : Count) : (s.writeLoad v).irqPend = s.irqPend := rfl
@[simp] theorem State.writeLoad_out (s : State) (v : Count) : (s.writeLoad v).out = s.out := rfl
@[simp] theorem State.writeLoad_par (s : State) (v : Count) : (s.writeLoad v).par = s.par := rfl
@[simp] theorem State.writeLoad_cmds (s : State) (v : Count) : (s.writeLoad v).cmds = s.cmds := rfl
@[simp] theorem State.writeLoad_sched (s : State) (v : Count) : (s.writeLoad v).sched = s.sched := rfl
@[simp] theorem State.writeLoad_turns (s : State) (v : Count) : (s.writeLoad v).turns = s.turns := rfl

/-! ### State.setPool -/

@[simp] theorem State.setPool_cascM (s : State) (p : Gran) (l : List Slot) : (s.setPool p l).cascM = s.cascM := rfl
@[simp] theorem State.setPool_cascS (s : State) (p : Gran) (l : List Slot) : (s.setPool p l).cascS = s.cascS := rfl
@[simp] theorem State.setPool_cfg (s : State) (p : Gran) (l : List Slot) : (s.setPool p l).cfg = s.cfg := rfl
@[simp] theorem State.setPool_seq (s : State) (p : Gran) (l : List Slot) : (s.setPool p l).seq = s.seq := rfl
@[simp] theorem State.setPool_flags (s : State) (p : Gran) (l : List Slot) : (s.setPool p l).flags = s.flags := rfl
@[simp] theorem State.setPool_tLoad (s : State) (p : Gran) (l : List Slot) : (s.setPool p l).tLoad = s.tLoad := rfl
@[simp] theorem State.setPool_tCount (s : State) (p : Gran) (l : List Slot) : (s.setPool p l).tCount = s.tCount := rfl
@[simp] theorem State.setPool_tCtrl (s : State) (p : Gran) (l : List Slot) : (s.setPool p l).tCtrl = s.tCtrl := rfl
@[simp] theorem State.setPool_edge (s : State) (p : Gran) (l : List Slot) : (s.setPool p l).edge = s.edge := rfl
@[simp] theorem State.setPool_vc (s : State) (p : Gran) (l : List Slot) : (s.setPool p l).vc = s.vc.set p l := rfl
@[simp] theorem State.setPool_irqPend (s : State) (p : Gran) (l : List Slot) : (s.setPool p l).irqPend = s.irqPend := rfl
@[simp] theorem State.setPool_out (s : State) (p : Gran) (l : List Slot) : (s.setPool p l).out = s.out := rfl
@[simp] theorem State.setPool_par (s : State) (p : Gran) (l : List Slot) : (s.setPool p l).par = s.par := rfl
@[simp] theorem State.setPool_cmds (s : State) (p : Gran) (l : List Slot) : (s.setPool p l).cmds = s.cmds := rfl
@[simp] theorem State.setPool_sched (s : State) (p : Gran) (l : List Slot) : (s.setPool p l).sched = s.sched := rfl
@[simp] theorem State.setPool_turns (s : State) (p : Gran) (l : List Slot) : (s.setPool p l).turns = s.turns := rfl

/-! ### State.setSlot -/

@[simp] theorem State.setSlot_cascM (s : State) (p : Gran) (i : Nat) (x : Slot) : (s.setSlot p i x).cascM = s.cascM := rfl
@[simp] theorem State.setSlot_cascS (s : State) (p : Gran) (i : Nat) (x : Slot) : (s.setSlot p i x).cascS = s.cascS := rfl
@[simp] theorem State.setSlot_cfg (s : State) (p : Gran) (i : Nat) (x : Slot) : (s.setSlot p i x).cfg = s.cfg := rfl
@[simp] theorem State.setSlot_seq (s : State) (p : Gran) (i : Nat) (x : Slot) : (s.setSlot p i x).seq = s.seq := rfl
@[simp] theorem State.setSlot_flags (s : State) (p : Gran) (i : Nat) (x : Slot) : (s.setSlot p i x).flags = s.flags := rfl
@[simp] theorem State.setSlot_tLoad (s : State) (p : Gran) (i : Nat) (x : Slot) : (s.setSlot p i x).tLoad = s.tLoad := rfl
@[simp] theorem State.setSlot_tCount (s : State) (p : Gran) (i : Nat) (x : Slot) : (s.setSlot p i x).tCount = s.tCount := rfl
@[simp] theorem State.setSlot_tCtrl (s : State) (p : Gran) (i : Nat) (x : Slot) : (s.setSlot p i x).tCtrl = s.tCtrl := rfl
@[simp] theorem State.setSlot_edge (s : State) (p : Gran) (i : Nat) (x : Slot) : (s.setSlot p i x).edge = s.edge := rfl
@[simp] theorem State.setSlot_vc (s : State) (p : Gran) (i : Nat) (x : Slot) : (s.setSlot p i x).vc = s.vc.set p ((s.vc.get p).set i x) := rfl
@[simp] theorem State.setSlot_irqPend (s : State) (p : Gran) (i : Nat) (x : Slot) : (s.setSlot p i x).irqPend = s.irqPend := rfl
@[simp] theorem State.setSlot_out (s : State) (p : Gran) (i : Nat) (x : Slot) : (s.setSlot p i x).out = s.out := rfl
@[simp] theorem State.setSlot_par (s : State) (p : Gran) (i : Nat) (x : Slot) : (s.setSlot p i x).par = s.par := rfl
@[simp] theorem State.setSlot_cmds (s : State) (p : Gran) (i : Nat) (x : Slot) : (s.setSlot p i x).cmds = s.cmds := rfl
@[simp] theorem State.setSlot_sched (s : State) (p : Gran) (i : Nat) (x : Slot) : (s.setSlot p i x).sched = s.sched := rfl
@[simp] theorem State.setSlot_turns (s : State) (p : Gran) (i : Nat) (x : Slot) : (s.setSlot p i x).turns = s.turns := rfl

/-! ### State.setSeq -/

@[simp] theorem State.setSeq_cascM (s : State) (ph : Phase) (n : Nat) : (s.setSeq ph n).cascM = s.cascM := rfl
@[simp] theorem State.setSeq_cascS (s : State) (ph : Phase) (n : Nat) : (s.setSeq ph n).cascS = s.cascS := rfl
@[simp] theorem State.setSeq_cfg (s : State) (ph : Phase) (n : Nat) : (s.setSeq ph n).cfg = s.cfg := rfl
@[simp] theorem State.setSeq_seq (s : State) (ph : Phase) (n : Nat) : (s.setSeq ph n).seq = ⟨ph, n⟩ := rfl
@[simp] theorem State.setSeq_flags (s : State) (ph : Phase) (n : Nat) : (s.setSeq ph n).flags = s.flags := rfl
@[simp] theorem State.setSeq_tLoad (s : State) (ph : Phase) (n : Nat) : (s.setSeq ph n).tLoad = s.tLoad := rfl
@[simp] theorem State.setSeq_tCount (s : State) (ph : Phase) (n : Nat) : (s.setSeq ph n).tCount = s.tCount := rfl
@[simp] theorem State.setSeq_tCtrl (s : State) (ph : Phase) (n : Nat) : (s.setSeq ph n).tCtrl = s.tCtrl := rfl
@[simp] theorem State.setSeq_edge (s : State) (ph : Phase) (n : Nat) : (s.setSeq ph n).edge = s.edge := rfl
@[simp] theorem State.setSeq_vc (s : State) (ph : Phase) (n : Nat) : (s.setSeq ph n).vc = s.vc := rfl
@[simp] theorem State.setSeq_irqPend (s : State) (ph : Phase) (n : Nat) : (s.setSeq ph n).irqPend = s.irqPend := rfl
@[simp] theorem State.setSeq_out (s : State) (ph : Phase) (n : Nat) : (s.setSeq ph n).out = s.out := rfl
@[simp] theorem State.setSeq_par (s : State) (ph : Phase) (n : Nat) : (s.setSeq ph n).par = s.par := rfl
@[simp] theorem State.setSeq_cmds (s : State) (ph : Phase) (n : Nat) : (s.setSeq ph n).cmds = s.cmds := rfl
@[simp] theorem State.setSeq_sched (s : State) (ph : Phase) (n : Nat) : (s.setSeq ph n).sched = s.sched := rfl
@[simp] theorem State.setSeq_turns (s : State) (ph : Phase) (n : Nat) : (s.setSeq ph n).turns = s.turns := rfl

/-! ### State.takeTurn -/

@[simp] theorem State.takeTurn_cascM (s : State) : (s.takeTurn).cascM = s.cascM := rfl
@[simp] theorem State.takeTurn_cascS (s : State) : (s.takeTurn).cascS = s.cascS := rfl
@[simp] theorem State.takeTurn_cfg (s : State) : (s.takeTurn).cfg = s.cfg := rfl
@[simp] theorem State.takeTurn_seq (s : State) : (s.takeTurn).seq = s.seq := rfl
@[simp] theorem State.takeTurn_flags (s : State) : (s.takeTurn).flags = s.flags := rfl
@[simp] theorem State.takeTurn_tLoad (s : State) : (s.takeTurn).tLoad = s.tLoad := rfl
@[simp] theorem State.takeTurn_tCount (s : State) : (s.takeTurn).tCount = s.tCount := rfl
@[simp] theorem State.takeTurn_tCtrl (s : State) : (s.takeTurn).tCtrl = s.tCtrl := rfl
@[simp] theorem State.takeTurn_edge (s : State) : (s.takeTurn).edge = s.edge := rfl
@[simp] theorem State.takeTurn_vc (s : State) : (s.takeTurn).vc = s.vc := rfl
@[simp] theorem State.takeTurn_irqPend (s : State) : (s.takeTurn).irqPend = s.irqPend := rfl
@[simp] theorem State.takeTurn_out (s : State) : (s.takeTurn).out = s.out := rfl
@[simp] theorem State.takeTurn_par (s : State) : (s.takeTurn).par = s.par := rfl
@[simp] theorem State.takeTurn_cmds (s : State) : (s.takeTurn).cmds = s.cmds := rfl
@[simp] theorem State.takeTurn_sched (s : State) : (s.takeTurn).sched = s.sched.tail := rfl
@[simp] theorem State.takeTurn_turns (s : State) : (s.takeTurn).turns = s.turns + 1 := rfl

/-! ### State.setFlag -/

@[simp] theorem State.setFlag_cascM (s : State) (g : Gran) : (s.setFlag g).cascM = s.cascM := rfl
@[simp] theorem State.setFlag_cascS (s : State) (g : Gran) : (s.setFlag g).cascS = s.cascS := rfl
@[simp] theorem State.setFlag_cfg (s : State) (g : Gran) : (s.setFlag g).cfg = s.cfg := rfl
@[simp] theorem State.setFlag_seq (s : State) (g : Gran) : (s.setFlag g).seq = s.seq := rfl
@[simp] theorem State.setFlag_flags (s : State) (g : Gran) : (s.setFlag g).flags = s.flags.set g true := rfl
@[simp] theorem State.setFlag_tLoad (s : State) (g : Gran) : (s.setFlag g).tLoad = s.tLoad := rfl
@[simp] theorem State.setFlag_tCount (s : State) (g : Gran) : (s.setFlag g).tCount = s.tCount := rfl
@[simp] theorem State.setFlag_tCtrl (s : State) (g : Gran) : (s.setFlag g).tCtrl = s.tCtrl := rfl
@[simp] theorem State.setFlag_edge (s : State) (g : Gran) : (s.setFlag g).edge = s.edge := rfl
@[simp] theorem State.setFlag_vc (s : State) (g : Gran) : (s.setFlag g).vc = s.vc := rfl
@[simp] theorem State.setFlag_irqPend (s : State) (g : Gran) : (s.setFlag g).irqPend = s.irqPend := rfl
@[simp] theorem State.setFlag_out (s : State) (g : Gran) : (s.setFlag g).out = s.out := rfl
@[simp] theorem State.setFlag_par (s : State) (g : Gran) : (s.setFlag g).par = s.par := rfl
@[simp] theorem State.setFlag_cmds (s : State) (g : Gran) : (s.setFlag g).cmds = s.cmds := rfl
@[simp] theorem State.setFlag_sched (s : State) (g : Gran) : (s.setFlag g).sched = s.sched := rfl
@[simp] theorem State.setFlag_turns (s : State) (g : Gran) : (s.setFlag g).turns = s.turns := rfl

/-! ### State.clearFlag -/

@[simp] theorem State.clearFlag_cascM (s : State) (g : Gran) : (s.clearFlag g).cascM = s.cascM := rfl
@[simp] theorem State.clearFlag_cascS (s : State) (g : Gran) : (s.clearFlag g).cascS = s.cascS := rfl
@[simp] theorem State.clearFlag_cfg (s : State) (g : Gran) : (s.clearFlag g).cfg = s.cfg := rfl
@[simp] theorem State.clearFlag_seq (s : State) (g : Gran) : (s.clearFlag g).seq = s.seq := rfl
@[simp] theorem State.clearFlag_flags (s : State) (g : Gran) : (s.clearFlag g).flags = s.flags.set g false := rfl
@[simp] theorem State.clearFlag_tLoad (s : State) (g : Gran) : (s.clearFlag g).tLoad = s.tLoad := rfl
@[simp] theorem State.clearFlag_tCount (s : State) (g : Gran) : (s.clearFlag g).tCount = s.tCount := rfl
@[simp] theorem State.clearFlag_tCtrl (s : State) (g : Gran) : (s.clearFlag g).tCtrl = s.tCtrl := rfl
@[simp] theorem State.clearFlag_edge (s : State) (g : Gran) : (s.clearFlag g).edge = s.edge := rfl
@[simp] theorem State.clearFlag_vc (s : State) (g : Gran) : (s.clearFlag g).vc = s.vc := rfl
@[simp] theorem State.clearFlag_irqPend (s : State) (g : Gran) : (s.clearFlag g).irqPend = s.irqPend := rfl
@[simp] theorem State.clearFlag_out (s : State) (g : Gran) : (s.clearFlag g).out = s.out := rfl
@[simp] theorem State.clearFlag_par (s : State) (g : Gran) : (s.clearFlag g).par = s.par := rfl
@[simp] theorem State.clearFlag_cmds (s : State) (g : Gran) : (s.clearFlag g).cmds = s.cmds := rfl
@[simp] theorem State.clearFlag_sched (s : State) (g : Gran) : (s.clearFlag g).sched = s.sched := rfl
@[simp] theorem State.clearFlag_turns (s : State) (g : Gran) : (s.clearFlag g).turns = s.turns := rfl

/-! ### State.sweep -/

@[simp] theorem State.sweep_cascM (s : State) (p : Gran) : (s.sweep p).cascM = s.cascM := rfl
@[simp] theorem State.sweep_cascS (s : State) (p : Gran) : (s.sweep p).cascS = s.cascS := rfl
@[simp] theorem State.sweep_cfg (s : State) (p : Gran) : (s.sweep p).cfg = s.cfg := rfl
@[simp] theorem State.sweep_seq (s : State) (p : Gran) : (s.sweep p).seq = s.seq := rfl
@[simp] theorem State.sweep_flags (s : State) (p : Gran) : (s.sweep p).flags = s.flags := rfl
@[simp] theorem State.sweep_tLoad (s : State) (p : Gran) : (s.sweep p).tLoad = s.tLoad := rfl
@[simp] theorem State.sweep_tCount (s : State) (p : Gran) : (s.sweep p).tCount = s.tCount := rfl
@[simp] theorem State.sweep_tCtrl (s : State) (p : Gran) : (s.sweep p).tCtrl = s.tCtrl := rfl
@[simp] theorem State.sweep_edge (s : State) (p : Gran) : (s.sweep p).edge = s.edge := rfl
@[simp] theorem State.sweep_vc (s : State) (p : Gran) : (s.sweep p).vc = s.vc.set p ((s.vc.get p).map sweepSlot) := rfl
@[simp] theorem State.sweep_irqPend (s : State) (p : Gran) : (s.sweep p).irqPend = s.irqPend := rfl
@[simp] theorem State.sweep_out (s : State) (p : Gran) : (s.sweep p).out = s.out := rfl
@[simp] theorem State.sweep_par (s : State) (p : Gran) : (s.sweep p).par = s.par := rfl
@[simp] theorem State.sweep_cmds (s : State) (p : Gran) : (s.sweep p).cmds = s.cmds := rfl
@[simp] theorem State.sweep_sched (s : State) (p : Gran) : (s.sweep p).sched = s.sched := rfl
@[simp] theorem State.sweep_turns (s : State) (p : Gran) : (s.sweep p).turns = s.turns := rfl

/-! ### State.setRun -/

@[simp] theorem State.setRun_cascM (s : State) (b : Bool) : (s.setRun b).cascM = s.cascM := rfl
@[simp] theorem State.setRun_cascS (s : State) (b : Bool) : (s.setRun b).cascS = s.cascS := rfl
@[simp] theorem State.setRun_cfg (s : State) (b : Bool) : (s.setRun b).cfg = s.cfg := rfl
@[simp] theorem State.setRun_seq (s : State) (b : Bool) : (s.setRun b).seq = s.seq := rfl
@[simp] theorem State.setRun_flags (s : State) (b : Bool) : (s.setRun b).flags = s.flags := rfl
@[simp] theorem State.setRun_tLoad (s : State) (b : Bool) : (s.setRun b).tLoad = s.tLoad := rfl
@[simp] theorem State.setRun_tCount (s : State) (b : Bool) : (s.setRun b).tCount = s.tCount := rfl
@[simp] theorem State.setRun_tCtrl (s : State) (b : Bool) : (s.setRun b).tCtrl = ⟨b, s.tCtrl.ar, s.tCtrl.ps⟩ := rfl
@[simp] theorem State.setRun_edge (s : State) (b : Bool) : (s.setRun b).edge = s.edge := rfl
@[simp] theorem State.setRun_vc (s : State) (b : Bool) : (s.setRun b).vc = s.vc := rfl
@[simp] theorem State.setRun_irqPend (s : State) (b : Bool) : (s.setRun b).irqPend = s.irqPend := rfl
@[simp] theorem State.setRun_out (s : State) (b : Bool) : (s.setRun b).out = s.out := rfl
@[simp] theorem State.setRun_par (s : State) (b : Bool) : (s.setRun b).par = s.par := rfl
@[simp] theorem State.setRun_cmds (s : State) (b : Bool) : (s.setRun b).cmds = s.cmds := rfl
@[simp] theorem State.setRun_sched (s : State) (b : Bool) : (s.setRun b).sched = s.sched := rfl
@[simp] theorem State.setRun_turns (s : State) (b : Bool) : (s.setRun b).turns = s.turns := rfl

/-! ### State.latch -/

@[simp] theorem State.latch_cascM (s : State) (f : Word32) (c : Sel) (r : Count) : (s.latch f c r).cascM = s.cascM := rfl
@[simp] theorem State.latch_cascS (s : State) (f : Word32) (c : Sel) (r : Count) : (s.latch f c r).cascS = s.cascS := rfl
@[simp] theorem State.latch_cfg (s : State) (f : Word32) (c : Sel) (r : Count) : (s.latch f c r).cfg = ⟨true, f, c, r⟩ := rfl
@[simp] theorem State.latch_seq (s : State) (f : Word32) (c : Sel) (r : Count) : (s.latch f c r).seq = s.seq := rfl
@[simp] theorem State.latch_flags (s : State) (f : Word32) (c : Sel) (r : Count) : (s.latch f c r).flags = s.flags := rfl
@[simp] theorem State.latch_tLoad (s : State) (f : Word32) (c : Sel) (r : Count) : (s.latch f c r).tLoad = s.tLoad := rfl
@[simp] theorem State.latch_tCount (s : State) (f : Word32) (c : Sel) (r : Count) : (s.latch f c r).tCount = s.tCount := rfl
@[simp] theorem State.latch_tCtrl (s : State) (f : Word32) (c : Sel) (r : Count) : (s.latch f c r).tCtrl = s.tCtrl := rfl
@[simp] theorem State.latch_edge (s : State) (f : Word32) (c : Sel) (r : Count) : (s.latch f c r).edge = s.edge := rfl
@[simp] theorem State.latch_vc (s : State) (f : Word32) (c : Sel) (r : Count) : (s.latch f c r).vc = s.vc := rfl
@[simp] theorem State.latch_irqPend (s : State) (f : Word32) (c : Sel) (r : Count) : (s.latch f c r).irqPend = s.irqPend := rfl
@[simp] theorem State.latch_out (s : State) (f : Word32) (c : Sel) (r : Count) : (s.latch f c r).out = s.out := rfl
@[simp] theorem State.latch_par (s : State) (f : Word32) (c : Sel) (r : Count) : (s.latch f c r).par = s.par := rfl
@[simp] theorem State.latch_cmds (s : State) (f : Word32) (c : Sel) (r : Count) : (s.latch f c r).cmds = s.cmds := rfl
@[simp] theorem State.latch_sched (s : State) (f : Word32) (c : Sel) (r : Count) : (s.latch f c r).sched = s.sched := rfl
@[simp] theorem State.latch_turns (s : State) (f : Word32) (c : Sel) (r : Count) : (s.latch f c r).turns = s.turns := rfl

/-! ### State.program -/

@[simp] theorem State.program_cascM (s : State) (c : Sel) (r : Count) : (s.program c r).cascM = s.cascM := rfl
@[simp] theorem State.program_cascS (s : State) (c : Sel) (r : Count) : (s.program c r).cascS = s.cascS := rfl
@[simp] theorem State.program_cfg (s : State) (c : Sel) (r : Count) : (s.program c r).cfg = s.cfg := rfl
@[simp] theorem State.program_seq (s : State) (c : Sel) (r : Count) : (s.program c r).seq = s.seq := rfl
@[simp] theorem State.program_flags (s : State) (c : Sel) (r : Count) : (s.program c r).flags = s.flags := rfl
@[simp] theorem State.program_tLoad (s : State) (c : Sel) (r : Count) : (s.program c r).tLoad = r := rfl
@[simp] theorem State.program_tCount (s : State) (c : Sel) (r : Count) : (s.program c r).tCount = r := rfl
@[simp] theorem State.program_tCtrl (s : State) (c : Sel) (r : Count) : (s.program c r).tCtrl = ⟨true, true, c⟩ := rfl
@[simp] theorem State.program_edge (s : State) (c : Sel) (r : Count) : (s.program c r).edge = true := rfl
@[simp] theorem State.program_vc (s : State) (c : Sel) (r : Count) : (s.program c r).vc = s.vc := rfl
@[simp] theorem State.program_irqPend (s : State) (c : Sel) (r : Count) : (s.program c r).irqPend = s.irqPend := rfl
@[simp] theorem State.program_out (s : State) (c : Sel) (r : Count) : (s.program c r).out = s.out := rfl
@[simp] theorem State.program_par (s : State) (c : Sel) (r : Count) : (s.program c r).par = s.par := rfl
@[simp] theorem State.program_cmds (s : State) (c : Sel) (r : Count) : (s.program c r).cmds = s.cmds := rfl
@[simp] theorem State.program_sched (s : State) (c : Sel) (r : Count) : (s.program c r).sched = s.sched := rfl
@[simp] theorem State.program_turns (s : State) (c : Sel) (r : Count) : (s.program c r).turns = s.turns := rfl

/-! ### State.bumpPos -/

@[simp] theorem State.bumpPos_cascM (s : State) : (s.bumpPos).cascM = s.cascM := rfl
@[simp] theorem State.bumpPos_cascS (s : State) : (s.bumpPos).cascS = s.cascS := rfl
@[simp] theorem State.bumpPos_cfg (s : State) : (s.bumpPos).cfg = s.cfg := rfl
@[simp] theorem State.bumpPos_seq (s : State) : (s.bumpPos).seq = ⟨s.seq.phase, s.seq.pos + 1⟩ := rfl
@[simp] theorem State.bumpPos_flags (s : State) : (s.bumpPos).flags = s.flags := rfl
@[simp] theorem State.bumpPos_tLoad (s : State) : (s.bumpPos).tLoad = s.tLoad := rfl
@[simp] theorem State.bumpPos_tCount (s : State) : (s.bumpPos).tCount = s.tCount := rfl
@[simp] theorem State.bumpPos_tCtrl (s : State) : (s.bumpPos).tCtrl = s.tCtrl := rfl
@[simp] theorem State.bumpPos_edge (s : State) : (s.bumpPos).edge = s.edge := rfl
@[simp] theorem State.bumpPos_vc (s : State) : (s.bumpPos).vc = s.vc := rfl
@[simp] theorem State.bumpPos_irqPend (s : State) : (s.bumpPos).irqPend = s.irqPend := rfl
@[simp] theorem State.bumpPos_out (s : State) : (s.bumpPos).out = s.out := rfl
@[simp] theorem State.bumpPos_par (s : State) : (s.bumpPos).par = s.par := rfl
@[simp] theorem State.bumpPos_cmds (s : State) : (s.bumpPos).cmds = s.cmds := rfl
@[simp] theorem State.bumpPos_sched (s : State) : (s.bumpPos).sched = s.sched := rfl
@[simp] theorem State.bumpPos_turns (s : State) : (s.bumpPos).turns = s.turns := rfl

/-! ### State.dtu -/

@[simp] theorem State.dtu_cascM (s : State) : (s.dtu).cascM = s.cascM := rfl
@[simp] theorem State.dtu_cascS (s : State) : (s.dtu).cascS = s.cascS := rfl
@[simp] theorem State.dtu_cfg (s : State) : (s.dtu).cfg = s.cfg := rfl
@[simp] theorem State.dtu_seq (s : State) : (s.dtu).seq = s.seq := rfl
@[simp] theorem State.dtu_flags (s : State) : (s.dtu).flags = s.flags := rfl
@[simp] theorem State.dtu_tLoad (s : State) : (s.dtu).tLoad = s.tLoad := rfl
@[simp] theorem State.dtu_tCount (s : State) : (s.dtu).tCount = s.tCount := rfl
@[simp] theorem State.dtu_tCtrl (s : State) : (s.dtu).tCtrl = s.tCtrl := rfl
@[simp] theorem State.dtu_edge (s : State) : (s.dtu).edge = s.edge := rfl
@[simp] theorem State.dtu_vc (s : State) : (s.dtu).vc = s.vc := rfl
@[simp] theorem State.dtu_irqPend (s : State) : (s.dtu).irqPend = s.irqPend := rfl
@[simp] theorem State.dtu_out (s : State) : (s.dtu).out = [] := rfl
@[simp] theorem State.dtu_par (s : State) : (s.dtu).par = s.par := rfl
@[simp] theorem State.dtu_cmds (s : State) : (s.dtu).cmds = [] := rfl
@[simp] theorem State.dtu_sched (s : State) : (s.dtu).sched = [] := rfl
@[simp] theorem State.dtu_turns (s : State) : (s.dtu).turns = 0 := rfl

end Machine

end Sys2Proof
end

