-- ==== Sys2Proof/Laws/Decode.lean ====
section
/-!
SUPPORT. The fields of a joined word, the joining of a word's fields, and the opcode map, said once for the proofs about
decoding and encoding.
-/

namespace Sys2Proof

/-! ### Fields of a joined word (R70) -/

@[simp] theorem opcField_joinWord (o a b c : Byte) (d : Word32) : opcField (joinWord o a b c d) = o := by
  unfold opcField joinWord; ext i hi; simp; grind

@[simp] theorem aField_joinWord (o a b c : Byte) (d : Word32) : aField (joinWord o a b c d) = a := by
  unfold aField joinWord; ext i hi; simp; grind

@[simp] theorem bField_joinWord (o a b c : Byte) (d : Word32) : bField (joinWord o a b c d) = b := by
  unfold bField joinWord; ext i hi; simp; grind

@[simp] theorem cField_joinWord (o a b c : Byte) (d : Word32) : cField (joinWord o a b c d) = c := by
  unfold cField joinWord; ext i hi; simp; grind

@[simp] theorem dField_joinWord (o a b c : Byte) (d : Word32) : dField (joinWord o a b c d) = d := by
  unfold dField joinWord; ext i hi; simp; grind

/-- A word is its five fields joined. -/
theorem joinWord_fields (w : Word64) : joinWord (opcField w) (aField w) (bField w) (cField w) (dField w) = w := by
  unfold joinWord opcField aField bField cField dField
  ext i hi
  simp only [BitVec.getElem_append, BitVec.getElem_extractLsb']
  grind

@[simp] theorem selField_joinWord (o b c : Byte) (s : Sel) (d : Word32) : selField (joinWord o (selByte s) b c d) = s := by
  simp only [selField, aField_joinWord, selByte]; ext i hi; simp; grind

@[simp] theorem aHigh_joinWord (o b c : Byte) (s : Sel) (d : Word32) : aHigh (joinWord o (selByte s) b c d) = 0#6 := by
  have key : ∀ s : Sel, (0#6 ++ s : Byte).extractLsb' 2 6 = 0#6 := by decide
  simpa only [aHigh, aField_joinWord, selByte] using key s

@[simp] theorem idxField_joinWord (o a b c : Byte) (x y : Half) : idxField (joinWord o a b c (joinHalves x y)) = x := by
  simp only [idxField, dField_joinWord, joinHalves]; ext i hi; simp; grind

@[simp] theorem ticksField_joinWord (o a b c : Byte) (x y : Half) :
    ticksField (joinWord o a b c (joinHalves x y)) = y := by
  simp only [ticksField, dField_joinWord, joinHalves]; ext i hi; simp; grind

/-- The field A of a word whose bits A[7:2] are zero is its selector. -/
theorem selByte_selField {w : Word64} (h : aHigh w = 0#6) : selByte (selField w) = aField w := by
  have key : ∀ a : Byte, a.extractLsb' 2 6 = 0#6 → (0#6 ++ a.extractLsb' 0 2 : Byte) = a := by decide
  exact key _ h

/-- The field D of a word is its two halves joined. -/
theorem joinHalves_fields (w : Word64) : joinHalves (idxField w) (ticksField w) = dField w := by
  unfold joinHalves idxField ticksField
  ext i hi
  simp only [BitVec.getElem_append, BitVec.getElem_extractLsb']
  grind

/-! ### The opcode map (R77) -/

@[simp] theorem Opcode.ofCode_code (op : Opcode) : Opcode.ofCode op.code = some op := by cases op <;> rfl

theorem Opcode.code_of_ofCode : ∀ {b : Byte} {op : Opcode}, Opcode.ofCode b = some op → op.code = b := by
  have key : ∀ b : Byte, ∀ op ∈ Opcode.ofCode b, op.code = b := by decide
  exact fun {b op} h => key b op h

/-- The decoder accepts exactly: a legal opcode whose unused bits are zero (R79). -/
theorem decode_eq_ok {w : Word64} {i : Instr} :
    decode w = .ok i ↔
      ∃ op, Opcode.ofCode (opcField w) = some op ∧ op.format.unusedZero w = true ∧ op.operands w = i := by
  unfold decode
  cases h : Opcode.ofCode (opcField w) with
  | none => simp
  | some op => cases hz : op.format.unusedZero w <;> simp [hz]

end Sys2Proof
end

