-- ==== Sys2Proof/Laws/Ops.lean ====
section
/-!
SUPPORT. One lemma per shared operation that says everything it can do: the checks, the window, the slots, the handler, the
timer's tick, the scheduler's micro-steps, and that every command and every turn but a refused tick answers a next state.
-/

namespace Sys2Proof.Machine

/-! ### Checks -/

/-- P(SEL) is 16 to the selector, for the three selectors that stand for a divisor (R74). -/
theorem divisor_eq_some {psel : Sel} {p : Nat} : divisor psel = some p ↔ psel ≠ 3#2 ∧ p = 16 ^ psel.toNat := by
  have key : ∀ c : Sel, divisor c = if c = 3#2 then none else some (16 ^ c.toNat) := by decide
  rw [key]; split <;> simp_all [eq_comm]

theorem divisor_eq_none {psel : Sel} : divisor psel = none ↔ psel = 3#2 := by revert psel; decide

theorem checkPool_eq_ok {sel : Sel} {p : Gran} : checkPool sel = .ok p ↔ sel = selOf p := by
  revert sel p; intro sel p; cases p <;> revert sel <;> decide

@[simp] theorem checkPool_selOf (p : Gran) : checkPool (selOf p) = .ok p := checkPool_eq_ok.2 rfl

theorem checkPool_eq_error {sel : Sel} {f : CmdFault} : checkPool sel = .error f ↔ sel = 3#2 ∧ f = .poolReserved := by
  have key : ∀ c : Sel, checkPool c = .error .poolReserved ∧ c = 3#2 ∨ (∃ p, checkPool c = .ok p) ∧ c ≠ 3#2 := by
    intro c
    have : c = 0#2 ∨ c = 1#2 ∨ c = 2#2 ∨ c = 3#2 := by revert c; decide
    rcases this with rfl | rfl | rfl | rfl
    · exact .inr ⟨⟨.fast, rfl⟩, by decide⟩
    · exact .inr ⟨⟨.med, rfl⟩, by decide⟩
    · exact .inr ⟨⟨.slow, rfl⟩, by decide⟩
    · exact .inl ⟨rfl, rfl⟩
  rcases key sel with ⟨h, hc⟩ | ⟨⟨p, h⟩, hc⟩
  · rw [h]; simp [hc, eq_comm]
  · rw [h]; simp [hc]

theorem checkSlot_eq_ok {s : State} {sel : Sel} {i : Half} {p : Gran} :
    checkSlot s sel i = .ok p ↔ sel = selOf p ∧ i.toNat < s.cap p := by
  unfold checkSlot
  cases h : checkPool sel with
  | error f =>
    have hs := (checkPool_eq_error.1 h).1
    constructor
    · intro hc; cases hc
    · rintro ⟨hp, -⟩; rw [hs] at hp; cases p <;> cases hp
  | ok q =>
    rw [checkPool_eq_ok] at h; subst h
    have : selOf q = selOf p ↔ q = p := by cases q <;> cases p <;> decide
    by_cases hc : s.cap q ≤ i.toNat <;> simp only [hc, if_true, if_false, this]
    · constructor
      · intro h; cases h
      · rintro ⟨rfl, hlt⟩; omega
    · constructor
      · intro h; cases h; exact ⟨rfl, by omega⟩
      · rintro ⟨rfl, -⟩; rfl

theorem regAt_eq_ok {off : Byte} {r : Reg} : regAt off = .ok r ↔ off = offsetOf r := by
  cases r <;> revert off <;> decide

@[simp] theorem regAt_offsetOf (r : Reg) : regAt (offsetOf r) = .ok r := regAt_eq_ok.2 rfl

theorem checkWidth_eq_ok {boff wid : Byte} {r q : Reg} :
    checkWidth boff wid r = .ok q ↔ FieldInside boff wid ∧ r = q := by
  unfold checkWidth FieldInside
  split
  · simp; omega
  · split
    · simp; omega
    · simp; intro _; omega

theorem checkField_eq_ok {off boff wid : Byte} {write : Bool} {r : Reg} :
    checkField off boff wid write = .ok r ↔
      off = offsetOf r ∧ ¬(write = true ∧ r = .tCount) ∧ FieldInside boff wid := by
  unfold checkField
  cases h : regAt off with
  | error f =>
    constructor
    · intro hc; cases hc
    · rintro ⟨rfl, -⟩; rw [regAt_offsetOf] at h; cases h
  | ok q =>
    rw [regAt_eq_ok] at h; subst h
    have inj : offsetOf q = offsetOf r ↔ q = r := by cases q <;> cases r <;> decide
    rw [inj]
    by_cases hw : write = true ∧ q = .tCount
    · simp only [hw, and_self, if_true]
      constructor
      · intro hc; cases hc
      · rintro ⟨rfl, hn, -⟩; simp at hn
    · simp only [hw, if_false, checkWidth_eq_ok]
      constructor
      · rintro ⟨hf, rfl⟩; exact ⟨rfl, hw, hf⟩
      · rintro ⟨rfl, -, hf⟩; exact ⟨hf, rfl⟩

/-- When TINIT's checks pass, what they computed (R101, R102). -/
theorem checkReload_eq_ok {s : State} {freq : Word32} {psel : Sel} {r : Nat} :
    checkReload s freq psel = .ok r ↔
      psel ≠ 3#2 ∧ freq ≠ 0#32 ∧ r = s.par.clkHz / (16 ^ psel.toNat * freq.toNat) ∧ 1 ≤ r ∧ r ≤ Config.maxReload := by
  unfold checkReload
  cases h : divisor psel with
  | none => simp [divisor_eq_none.1 h]
  | some p =>
    obtain ⟨hp, rfl⟩ := divisor_eq_some.1 h
    simp only [reloadCount, hp, ne_eq, not_false_eq_true, true_and]
    by_cases h1 : freq = 0#32
    · simp [h1]
    · by_cases h2 : s.par.clkHz / (16 ^ psel.toNat * freq.toNat) = 0
      · simp only [h1, h2, if_true, if_false, reduceCtorEq, false_iff]; omega
      · by_cases h3 : s.par.clkHz / (16 ^ psel.toNat * freq.toNat) > Config.maxReload
        · simp only [h1, h2, h3, if_true, if_false, reduceCtorEq, false_iff]; omega
        · simp only [h1, h2, h3, if_false, Except.ok.injEq, not_false_eq_true, true_and]; omega

/-- The six register effects of TINIT at once (R102). -/
theorem State.program_eq (s : State) (psel : Sel) (r : Count) :
    s.program psel r = { s with tLoad := r, tCount := r, tCtrl := ⟨true, true, psel⟩, edge := true } := rfl

/-- A register write writes the timer registers, nothing else (R53). -/
theorem State.writeReg_eq (s : State) (r : Reg) (v : Word32) :
    s.writeReg r v =
      { s with tLoad := (s.writeReg r v).tLoad, tCount := (s.writeReg r v).tCount,
               tCtrl := (s.writeReg r v).tCtrl, edge := (s.writeReg r v).edge } := by
  cases r <;> rfl

/-! ### Slots -/

theorem State.slotAt_setSlot_same {s : State} {p : Gran} {i : Nat} (x : Slot) (h : i < s.cap p) :
    (s.setSlot p i x).slotAt p i = x := by
  unfold State.cap at h
  simp [State.slotAt, h]

theorem State.slotAt_setSlot_of_ne (s : State) (p q : Gran) (i j : Nat) (x : Slot) (h : ¬(q = p ∧ j = i)) :
    (s.setSlot p i x).slotAt q j = s.slotAt q j := by
  by_cases hq : q = p
  · subst hq
    have hij : i ≠ j := fun e => h ⟨rfl, e.symm⟩
    simp [State.slotAt, List.getElem?_set_ne hij]
  · simp [State.slotAt, Tri.get_set_of_ne _ _ hq]

@[simp] theorem State.cap_setSlot (s : State) (p q : Gran) (i : Nat) (x : Slot) : (s.setSlot p i x).cap q = s.cap q := by
  by_cases hq : q = p
  · subst hq; simp [State.cap]
  · simp [State.cap, Tri.get_set_of_ne _ _ hq]

@[simp] theorem State.cap_sweep (s : State) (p q : Gran) : (s.sweep p).cap q = s.cap q := by
  by_cases hq : q = p
  · subst hq; simp [State.cap]
  · simp [State.cap, Tri.get_set_of_ne _ _ hq]

@[simp] theorem sweepSlot_initial : sweepSlot Slot.initial = Slot.initial := rfl

/-- A sweep acts on every slot of its pool and on no other (R155). -/
theorem State.slotAt_sweep (s : State) (p q : Gran) (i : Nat) :
    (s.sweep p).slotAt q i = if q = p then sweepSlot (s.slotAt q i) else s.slotAt q i := by
  by_cases hq : q = p
  · subst hq
    simp only [State.slotAt, State.sweep_vc, Tri.get_set_same, List.getElem?_map, if_true]
    cases (s.vc.get q)[i]? <;> simp
  · simp [State.slotAt, Tri.get_set_of_ne _ _ hq, hq]

/-! ### The handler (R121) -/

theorem State.handler_cascM (s : State) :
    s.handler.cascM = if s.cascM - 1#16 = 0#16 then s.par.mPeriod else s.cascM - 1#16 := by
  unfold State.handler State.countSlow State.countMed; split <;> split <;> rfl

theorem State.handler_cascS (s : State) :
    s.handler.cascS = if s.cascS - 1#16 = 0#16 then s.par.sPeriod else s.cascS - 1#16 := by
  unfold State.handler State.countSlow State.countMed
  by_cases h : s.cascM - 1#16 = 0#16 <;> simp only [h, if_true, if_false, State.setFlag_cascS, State.setFlag_par] <;>
    split <;> rfl

theorem State.handler_flags (s : State) :
    s.handler.flags =
      ⟨true, s.flags.med || decide (s.cascM - 1#16 = 0#16), s.flags.slow || decide (s.cascS - 1#16 = 0#16)⟩ := by
  unfold State.handler State.countSlow State.countMed
  by_cases h : s.cascM - 1#16 = 0#16 <;> by_cases h' : s.cascS - 1#16 = 0#16 <;> simp [h, h', Tri.set]

/-- The handler writes the two cascade counters and the flags, nothing else. -/
theorem State.handler_eq (s : State) :
    s.handler = { s with cascM := s.handler.cascM, cascS := s.handler.cascS, flags := s.handler.flags } := by
  unfold State.handler State.countSlow State.countMed
  by_cases h : s.cascM - 1#16 = 0#16 <;> by_cases h' : s.cascS - 1#16 = 0#16 <;>
    simp [h, h', State.setFlag]

/-! ### The timer (R108) -/

/-- A tick writes T_COUNT and IRQ_PEND, nothing else. -/
theorem State.count_eq (s : State) :
    s.count =
      { s with
        tCount := if s.tCount - 1#23 = 0#23 then s.tLoad else s.tCount - 1#23
        irqPend := s.irqPend || (decide (s.tCount - 1#23 = 0#23) && s.edge) } := by
  unfold State.count; split <;> simp_all

/-- The timer's turn answers a next state exactly when the timer is stopped or in no state of R109. -/
theorem timerTurn_eq_next {s t : State} :
    timerTurn s = .next t ↔
      (s.tCtrl.en = false ∧ t = s) ∨
        (s.tCtrl.en = true ∧ s.tCtrl.ps ≠ 3#2 ∧ s.tCtrl.ar = true ∧ s.tCount ≠ 0#23 ∧ t = s.count) := by
  unfold timerTurn
  cases h1 : s.tCtrl.en
  · simp [@eq_comm _ t]
  · by_cases h2 : s.tCtrl.ps = 3#2
    · simp [h2]
    · cases h3 : s.tCtrl.ar
      · simp [h2]
      · by_cases h4 : s.tCount = 0#23
        · simp [h2, h4]
        · simp [h2, h4, @eq_comm _ t]

/-- The timer's turn is refused exactly in the three states of R109, each under its name. -/
theorem timerTurn_eq_refused {s : State} {r : Refusal} :
    timerTurn s = .refused r ↔
      s.tCtrl.en = true ∧
        ((s.tCtrl.ps = 3#2 ∧ r = .tickReservedPrescaler) ∨
          (s.tCtrl.ps ≠ 3#2 ∧ s.tCtrl.ar = false ∧ r = .tickNoAutoReload) ∨
          (s.tCtrl.ps ≠ 3#2 ∧ s.tCtrl.ar = true ∧ s.tCount = 0#23 ∧ r = .tickAtZero)) := by
  unfold timerTurn
  cases h1 : s.tCtrl.en
  · simp
  · by_cases h2 : s.tCtrl.ps = 3#2
    · simp [h2, @eq_comm _ r]
    · cases h3 : s.tCtrl.ar
      · simp [h2, @eq_comm _ r]
      · by_cases h4 : s.tCount = 0#23
        · simp [h2, h4, @eq_comm _ r]
        · simp [h2, h4]

/-- The dispatcher's turn: the handler after the entry, or nothing (R120). -/
theorem dispatcherTurn_eq_next {s t : State} :
    dispatcherTurn s = .next t ↔
      (s.irqPend = true ∧ t = s.enterInterrupt.handler) ∨ (s.irqPend = false ∧ t = s) := by
  unfold dispatcherTurn
  cases h : s.irqPend <;> simp [@eq_comm _ t]

/-! ### The scheduler (R137, R139) -/

theorem State.sweepIfEnabled_eq (s : State) (g : Gran) :
    s.sweepIfEnabled g = { s with vc := if s.par.decInSched then (s.sweep g).vc else s.vc } := by
  unfold State.sweepIfEnabled; split <;> simp_all [State.sweep, State.setPool]

/-- Leaving granularity g moves the sequencer on, and gives RUN's response after the last one. -/
theorem State.leave_eq (s : State) (g : Gran) :
    s.leave g =
      { s with
        seq := ⟨match g with | .fast => .take .med | .med => .take .slow | .slow => .idle, 0⟩
        out := match g with | .fast => s.out | .med => s.out | .slow => .response ⟨0#4, 0#32⟩ :: s.out } := by
  cases g <;> rfl

/-- TAKE writes the flags, the pools, the history and RUNSEQ, nothing else (R137). -/
theorem State.take_eq (s : State) (g : Gran) :
    s.take g =
      { s with flags := (s.take g).flags, vc := (s.take g).vc, out := (s.take g).out, seq := (s.take g).seq } := by
  unfold State.take; split
  · rw [State.sweepIfEnabled_eq]; rfl
  · rw [State.leave_eq]

/-! ### Every command answers -/

/-- Every command is total: it is performed or it faults, and both are next states (93, section 3). -/
theorem exec_next (i : Instr) (s : State) : ∃ t, exec i s = .next t := by
  cases i with
  | tinit freq psel => simp only [exec, execTinit]; split <;> exact ⟨_, rfl⟩
  | ten => exact ⟨_, rfl⟩
  | tdis => exact ⟨_, rfl⟩
  | tdisp => exact ⟨_, rfl⟩
  | run => simp only [exec, execRun]; split <;> exact ⟨_, rfl⟩
  | vinit => exact ⟨_, rfl⟩
  | varm pool index ticks => simp only [exec, execVarm]; split <;> exact ⟨_, rfl⟩
  | vdec pool => simp only [exec, execVdec]; split <;> exact ⟨_, rfl⟩
  | vqry pool index => simp only [exec, execVqry]; split <;> exact ⟨_, rfl⟩
  | rdf reg boff wid => simp only [exec, execRdf]; split <;> exact ⟨_, rfl⟩
  | wrf reg boff val wid => simp only [exec, execWrf]; split <;> exact ⟨_, rfl⟩

theorem perform_next (w : Word64) (s : State) : ∃ t, perform w s = .next t := by
  unfold perform; split
  · exact ⟨_, rfl⟩
  · exact exec_next _ _

theorem mainTurn_next (s : State) : ∃ t, mainTurn s = .next t := by
  unfold mainTurn; split
  · unfold issueCommand; split
    · exact ⟨_, rfl⟩
    · exact perform_next _ _
  · exact ⟨_, rfl⟩
  · unfold cbStep; split
    · rename_i w _
      obtain ⟨t, ht⟩ := perform_next w s
      exact ⟨t.bumpPos, by rw [ht]; rfl⟩
    · exact ⟨_, rfl⟩

/-! ### What a turn can do -/

/-- Everything a command can do (R77): it faults and changes nothing but the history, or it does what its row says. -/
theorem exec_cases {i : Instr} {s t : State} (h : exec i s = .next t) :
    (∃ f, t = s.respond (faultResponse f)) ∨
      match i with
      | .tinit freq psel => ∃ r, checkReload s freq psel = .ok r ∧
          t = ((s.program psel (BitVec.ofNat 23 r)).latch freq psel (BitVec.ofNat 23 r)).respond ⟨0#4, 0#32⟩
      | .ten => t = (s.setRun true).respond ⟨0#4, 0#32⟩
      | .tdis => t = (s.setRun false).respond ⟨0#4, 0#32⟩
      | .tdisp => t = s.handler.respond ⟨0#4, 0#32⟩
      | .run => s.seq.phase = .idle ∧ t = s.setSeq (.take .fast) 0
      | .vinit => t = { s with vc := s.vc.map initPool }.respond ⟨0#4, 0#32⟩
      | .varm pool index ticks => ∃ p, checkSlot s pool index = .ok p ∧
          t = (s.setSlot p index.toNat ⟨ticks, true⟩).respond ⟨0#4, 0#32⟩
      | .vdec pool => ∃ p, checkPool pool = .ok p ∧ t = (s.sweep p).respond ⟨0#4, 0#32⟩
      | .vqry pool index => ∃ p, checkSlot s pool index = .ok p ∧
          t = s.respond ⟨0#4, slotWord (s.slotAt p index.toNat)⟩
      | .rdf reg boff wid => ∃ r, checkField reg boff wid false = .ok r ∧
          t = s.respond ⟨0#4, fieldGet (s.readReg r) boff.toNat wid.toNat⟩
      | .wrf reg boff val wid => ∃ r, checkField reg boff wid true = .ok r ∧
          t = (s.writeReg r (fieldPut (s.readReg r) boff.toNat wid.toNat val)).respond ⟨0#4, 0#32⟩ := by
  cases i with
  | tinit freq psel =>
    simp only [exec, execTinit] at h
    split at h <;> cases h
    · exact .inl ⟨_, rfl⟩
    · exact .inr ⟨_, by assumption, rfl⟩
  | ten => cases h; exact .inr rfl
  | tdis => cases h; exact .inr rfl
  | tdisp => cases h; exact .inr rfl
  | run =>
    simp only [exec, execRun] at h
    split at h <;> cases h
    · exact .inr ⟨by assumption, rfl⟩
    · exact .inl ⟨_, rfl⟩
  | vinit => cases h; exact .inr rfl
  | varm pool index ticks =>
    simp only [exec, execVarm] at h
    split at h <;> cases h
    · exact .inl ⟨_, rfl⟩
    · exact .inr ⟨_, by assumption, rfl⟩
  | vdec pool =>
    simp only [exec, execVdec] at h
    split at h <;> cases h
    · exact .inl ⟨_, rfl⟩
    · exact .inr ⟨_, by assumption, rfl⟩
  | vqry pool index =>
    simp only [exec, execVqry] at h
    split at h <;> cases h
    · exact .inl ⟨_, rfl⟩
    · exact .inr ⟨_, by assumption, rfl⟩
  | rdf reg boff wid =>
    simp only [exec, execRdf] at h
    split at h <;> cases h
    · exact .inl ⟨_, rfl⟩
    · exact .inr ⟨_, by assumption, rfl⟩
  | wrf reg boff val wid =>
    simp only [exec, execWrf] at h
    split at h <;> cases h
    · exact .inl ⟨_, rfl⟩
    · exact .inr ⟨_, by assumption, rfl⟩

/-- A word is refused with its fault, or its command is performed (R79). -/
theorem perform_cases {w : Word64} {s t : State} (h : perform w s = .next t) :
    (∃ f, decode w = .error f ∧ t = s.respond (faultResponse f)) ∨ (∃ i, decode w = .ok i ∧ exec i s = .next t) := by
  unfold perform at h
  split at h
  · cases h; exact .inl ⟨_, by assumption, rfl⟩
  · exact .inr ⟨_, by assumption, h⟩

/-- A word performed while the sequencer is busy leaves it and the parameters alone, and gives exactly one response (R76, R139). -/
theorem perform_while_busy {w : Word64} {s t : State} (hs : s.seq.phase ≠ .idle) (h : perform w s = .next t) :
    t.seq = s.seq ∧ t.par = s.par ∧ ∃ r, t.out = .response r :: s.out := by
  rcases perform_cases h with ⟨f, -, rfl⟩ | ⟨i, -, h⟩
  · exact ⟨rfl, rfl, _, rfl⟩
  · rcases exec_cases h with ⟨f, rfl⟩ | h
    · exact ⟨rfl, rfl, _, rfl⟩
    · cases i <;> simp only at h
      case tinit => obtain ⟨_, -, rfl⟩ := h; rw [State.program_eq]; exact ⟨rfl, rfl, _, rfl⟩
      case tdisp => subst h; rw [State.handler_eq]; exact ⟨rfl, rfl, _, rfl⟩
      case run => exact absurd h.1 hs
      case wrf => obtain ⟨_, -, rfl⟩ := h; rw [State.writeReg_eq]; exact ⟨rfl, rfl, _, rfl⟩
      case ten | tdis | vinit => subst h; exact ⟨rfl, rfl, _, rfl⟩
      all_goals obtain ⟨_, -, rfl⟩ := h; exact ⟨rfl, rfl, _, rfl⟩

/-- Everything a turn of the main context can do (R14, R24): nothing, the host's word, a TAKE, a body's word, a callback's return. -/
theorem mainTurn_cases {s t : State} (h : mainTurn s = .next t) :
    (s.seq.phase = .idle ∧ s.cmds = [] ∧ t = s) ∨
      (∃ w ws, s.seq.phase = .idle ∧ s.cmds = w :: ws ∧ perform w { s with cmds := ws } = .next t) ∨
      (∃ g, s.seq.phase = .take g ∧ t = s.take g) ∨
      (∃ g w u, s.seq.phase = .cb g ∧ (s.par.bodies.get g)[s.seq.pos]? = some w ∧ perform w s = .next u ∧ t = u.bumpPos) ∨
      (∃ g, s.seq.phase = .cb g ∧ (s.par.bodies.get g)[s.seq.pos]? = none ∧ t = s.leave g) := by
  unfold mainTurn at h
  split at h
  · rename_i hp
    unfold issueCommand at h
    split at h
    · cases h; exact .inl ⟨hp, by assumption, rfl⟩
    · exact .inr (.inl ⟨_, _, hp, by assumption, h⟩)
  · cases h; exact .inr (.inr (.inl ⟨_, by assumption, rfl⟩))
  · rename_i g hp
    unfold cbStep at h
    split at h
    · rename_i w hw
      obtain ⟨u, hu⟩ := perform_next w s
      rw [hu] at h; cases h
      exact .inr (.inr (.inr (.inl ⟨g, w, u, hp, hw, hu, rfl⟩)))
    · cases h; exact .inr (.inr (.inr (.inr ⟨g, hp, by assumption, rfl⟩)))

theorem State.performs_host {s : State} {w : Word64} {ws : List Word64} (h1 : s.nextTurn = .main)
    (h2 : s.seq.phase = .idle) (h3 : s.cmds = w :: ws) : s.performs = (decode w).toOption := by
  simp [State.performs, h1, State.nextWord, h2, h3]

theorem State.performs_body {s : State} {w : Word64} {g : Gran} (h1 : s.nextTurn = .main) (h2 : s.seq.phase = .cb g)
    (h3 : (s.par.bodies.get g)[s.seq.pos]? = some w) : s.performs = (decode w).toOption := by
  simp [State.performs, h1, State.nextWord, h2, h3]

/-- A turn of the main context, sorted by what it does to the DTU: nothing, a command that the step performs (from the host or from a body), a
refused word, a TAKE, a callback's return. -/
theorem main_step_cases {s t : State} (h1 : s.nextTurn = .main) (h : mainTurn s.takeTurn = .next t) :
    (t = s.takeTurn) ∨
      (∃ i cmds u, s.performs = some i ∧ exec i { s.takeTurn with cmds := cmds } = .next u ∧
        (t = u ∨ (∃ g, s.seq.phase = .cb g ∧ s.seq.pos < (s.par.bodies.get g).length) ∧ t = u.bumpPos)) ∨
      (∃ f cmds, t = { s.takeTurn with cmds := cmds }.respond (faultResponse f)) ∨
      (∃ f g, s.seq.phase = .cb g ∧ s.seq.pos < (s.par.bodies.get g).length ∧
        t = (s.takeTurn.respond (faultResponse f)).bumpPos) ∨
      (∃ g, s.seq.phase = .take g ∧ t = s.takeTurn.take g) ∨
      (∃ g, s.seq.phase = .cb g ∧ s.performs = none ∧ t = s.takeTurn.leave g) := by
  have hlt : ∀ {g w}, (s.par.bodies.get g)[s.seq.pos]? = some w → s.seq.pos < (s.par.bodies.get g).length :=
    fun h => (List.getElem?_eq_some_iff.1 h).1
  rcases mainTurn_cases h with ⟨h2, h3, rfl⟩ | ⟨w, ws, h2, h3, h4⟩ | ⟨g, h2, rfl⟩ | ⟨g, w, u, h2, h3, h4, rfl⟩ | ⟨g, h2, h3, rfl⟩
  · exact .inl rfl
  · rcases perform_cases h4 with ⟨f, h5, rfl⟩ | ⟨i, h5, h6⟩
    · exact .inr (.inr (.inl ⟨_, ws, rfl⟩))
    · exact .inr (.inl ⟨i, ws, t, by rw [State.performs_host h1 h2 h3, h5]; rfl, h6, .inl rfl⟩)
  · exact .inr (.inr (.inr (.inr (.inl ⟨g, h2, rfl⟩))))
  · rcases perform_cases h4 with ⟨f, h5, rfl⟩ | ⟨i, h5, h6⟩
    · exact .inr (.inr (.inr (.inl ⟨_, g, h2, hlt h3, rfl⟩)))
    · exact .inr (.inl ⟨i, s.cmds, u, by rw [State.performs_body h1 h2 h3, h5]; rfl, h6, .inr ⟨⟨g, h2, hlt h3⟩, rfl⟩⟩)
  · have h2' : s.seq.phase = .cb g := h2
    have h3' : (s.par.bodies.get g)[s.seq.pos]? = none := h3
    exact .inr (.inr (.inr (.inr (.inr ⟨g, h2', by simp [State.performs, h1, State.nextWord, h2', h3'], rfl⟩))))

/-- Everything a step can do, by whose turn it is. -/
theorem step_cases {s t : State} (h : step s = .next t) :
    (s.nextTurn = .timer ∧ timerTurn s.takeTurn = .next t) ∨
      (s.nextTurn = .dispatcher ∧ dispatcherTurn s.takeTurn = .next t) ∨
      (s.nextTurn = .main ∧ mainTurn s.takeTurn = .next t) ∨
      (s.nextTurn = .reset ∧ t = s.takeTurn.restart) := by
  unfold step at h
  cases hn : s.nextTurn <;> rw [hn] at h
  · exact .inl ⟨rfl, h⟩
  · exact .inr (.inl ⟨rfl, h⟩)
  · exact .inr (.inr (.inl ⟨rfl, h⟩))
  · cases h; exact .inr (.inr (.inr ⟨rfl, rfl⟩))

/-! ### Sequences and runs -/

theorem turnSeq_cons {a : Turn} {l : List Turn} {s t : State} (h : agentTurn a s = .next t) :
    turnSeq (a :: l) s = turnSeq l t := by
  simp [turnSeq, chain, h]

theorem runFor_succ {s t : State} (h : step s = .next t) (n : Nat) : runFor (n + 1) s = runFor n t := by
  simp [runFor, h]

theorem State.countSteps_succ {cond : State → Bool} {s t : State} (h : step s = .next t) (n : Nat) :
    State.countSteps cond (n + 1) s = (cond s).toNat + State.countSteps cond n t := by
  simp [State.countSteps, h]

/-- A fault's response never carries STATUS 0 (R76). -/
theorem faultStatus_ne_zero (f : CmdFault) : faultStatus f ≠ 0#4 := by cases f <;> decide

theorem faultStatus_le (f : CmdFault) : (faultStatus f).toNat ≤ 5 := by cases f <;> decide

/-- The host's word in the front of a queue is what the very next step performs. -/
theorem step_present (s : State) (w : Word64) :
    step (s.present w) = perform w { s with seq := ⟨.idle, 0⟩, turns := s.turns + 1 } := rfl

end Sys2Proof.Machine
end

