-- ==== Sys2Proof/Laws/PerInstr.lean ====
section
/-!
SUPPORT. Statements made per instruction. Family OpcodeByte: the encoding of an instruction carries its row's opcode in
bits [63:56] (R70, R77), so no two rows share a word.
-/

namespace Sys2Proof.Laws.OpcodeByte

/-- Bits [63:56] of the encoding are the row's OPC. -/
def Statement (i : Instr) : Prop := opcField (encode i) = i.opcode.code

theorem tinit (freq : Word32) (psel : Sel) : Statement (.tinit freq psel) := opcField_joinWord ..

theorem ten : Statement .ten := opcField_joinWord ..

theorem tdis : Statement .tdis := opcField_joinWord ..

theorem tdisp : Statement .tdisp := opcField_joinWord ..

theorem run : Statement .run := opcField_joinWord ..

theorem vinit : Statement .vinit := opcField_joinWord ..

theorem varm (pool : Sel) (index ticks : Half) : Statement (.varm pool index ticks) := opcField_joinWord ..

theorem vdec (pool : Sel) : Statement (.vdec pool) := opcField_joinWord ..

theorem vqry (pool : Sel) (index : Half) : Statement (.vqry pool index) := opcField_joinWord ..

theorem rdf (reg boff wid : Byte) : Statement (.rdf reg boff wid) := opcField_joinWord ..

theorem wrf (reg boff : Byte) (val : Word32) (wid : Byte) : Statement (.wrf reg boff val wid) := opcField_joinWord ..

end Sys2Proof.Laws.OpcodeByte
end

