-- ==== Sys2Proof/Tests/Slice0.lean ====
section
/-!
SUPPORT. Tests of the model: words written out from the encoding tables, terms each well-formedness check refuses, one step per test with the
results of spec/95_test_vectors.md, and for every obligation with hypotheses a witness that meets them all together.
-/

namespace Sys2Proof.Tests

open Sys2Proof Sys2Proof.Machine

/-! ### Helpers -/

/-- The next state of a result, if it is one. -/
def after : Result → Option State
  | .next s => some s
  | .fault _ => none
  | .refused _ => none

/-- The state one step after the host has presented a table word. -/
def ran (s : State) (w : Nat) : Option State := after (step (s.withFetchWord 64 w))

/-- The newest output one step after the host has presented a table word. -/
def reply (s : State) (w : Nat) : Option Output := (ran s w).bind fun t => t.out.head?

/-- A response as it stands in the history. -/
def ok (status : BitVec 4) (rdata : Word32) : Option Output := some (.response ⟨status, rdata⟩)

/-- The state after reset with one agent next. -/
def turnOf (t : Turn) : State := { State.reset with sched := [t] }

/-- A timer as TINIT 100000, DIV256 leaves it (V40-1c), at the given count, with the timer next. -/
def ticking (count : Count) : State :=
  { State.reset with
    tLoad := 3#23, tCount := count, tCtrl := ⟨true, true, 2#2⟩, edge := true, cfg := ⟨true, 100000#32, 2#2, 3#23⟩, sched := [.timer] }

/-- The state in the given phase and position, with the main context next, the given flags, and the given bodies. -/
def running (phase : Phase) (pos : Nat) (flags : Tri Bool) (bodies : Tri (List Word64)) : State :=
  { State.reset with
    seq := ⟨phase, pos⟩, flags := flags, sched := [.main], par := { Params.default with bodies := bodies } }

/-- The state after reset with fast slot 0 as given. -/
def fastSlot0 (x : Slot) : State := State.reset.setSlot .fast 0 x

/-- TEN as a body word. -/
def tenWord : Word64 := 0x0200000000000000#64

/-! ### Decoding: words written out from R70 to R77 and from the vectors of section 2 -/

theorem test_decode_tinit : decodeTableWord 64 0x01010000000186A0 = some (.tinit 100000#32 1#2) := by decide

theorem test_decode_ten : decodeTableWord 64 0x0200000000000000 = some .ten := by decide

theorem test_decode_tdis : decodeTableWord 64 0x0300000000000000 = some .tdis := by decide

theorem test_decode_tdisp : decodeTableWord 64 0x0400000000000000 = some .tdisp := by decide

theorem test_decode_run : decodeTableWord 64 0x0500000000000000 = some .run := by decide

theorem test_decode_vinit : decodeTableWord 64 0x0600000000000000 = some .vinit := by decide

/-- V43-7. -/
theorem test_decode_varm : decodeTableWord 64 0x070200000009FFFF = some (.varm 2#2 9#16 65535#16) := by decide

/-- V43-8. -/
theorem test_decode_vdec : decodeTableWord 64 0x0801000000000000 = some (.vdec 1#2) := by decide

/-- V43-11. -/
theorem test_decode_vqry : decodeTableWord 64 0x09010000000A0000 = some (.vqry 1#2 10#16) := by decide

/-- Table 2.6, step 16. -/
theorem test_decode_rdf : decodeTableWord 64 0x0A081F0200000000 = some (.rdf 0x08#8 31#8 2#8) := by decide

/-- Table 2.6, step 19. -/
theorem test_decode_wrf : decodeTableWord 64 0x0B0010100000ABCD = some (.wrf 0x00#8 16#8 0xABCD#32 16#8) := by decide

/-- V30-1 to V30-8. -/
theorem test_illegal_words :
    (([0x0000000000000000, 0xFFFFFFFFFFFFFFFF, 0x0C00000000000000, 0x0200000000000001, 0x0201000000000000, 0x0104000000000005,
          0x0900000000000001, 0x0800000000000001] : List Nat).map (decodeTableWord 64)) = List.replicate 8 none := by
  decide

/-- V30-3 and V30-4: the two faults of R78 are told apart. -/
theorem test_illegal_replies :
    reply State.reset 0x0C00000000000000 = ok 5#4 1#32 ∧ reply State.reset 0x0200000000000001 = ok 5#4 2#32 := by
  decide

/-- R70 and R77: the encoder puts each field where the format has it. -/
theorem test_encode_words :
    encode (.tinit 1#32 2#2) = 0x0102000000000001#64 ∧ encode (.varm 0#2 10#16 1#16) = 0x07000000000A0001#64 ∧
      encode (.wrf 0x08#8 6#8 3#32 2#8) = 0x0B08060200000003#64 := by
  decide

/-- R81 and R82: the text of an instruction, and two aliases. -/
theorem test_text :
    (Instr.varm 2#2 9#16 300#16).text = "VARM SLOW, 9, 300" ∧ (Instr.tinit 100000#32 1#2).text = "TINIT 100000, DIV16" ∧
      (Instr.rdf 0x08#8 2#8 2#8).text = "RDF T_CTRL, 2, 2" ∧ Instr.ten.text = "TEN" ∧ (Alias.atts 9#16 300#16).expand = .varm 2#2 9#16 300#16 ∧
      (Alias.tstop).expand = .wrf 0x08#8 7#8 0#32 1#8 := by
  decide

/-! ### Well-formedness: the defaults pass, and one ill-formed term per check is refused (R4, R6, R7, R10) -/

theorem test_wf_defaults : Params.default.wf = true ∧ capsWf Config.defaultCaps = true := by decide

theorem test_wf_clk : { Params.default with clkHz := 0 }.wf = false := by decide

theorem test_wf_mPeriod : { Params.default with mPeriod := 0#16 }.wf = false := by decide

theorem test_wf_sPeriod : { Params.default with sPeriod := 0#16 }.wf = false := by decide

theorem test_wf_body_fast : { Params.default with bodies := ⟨[tenWord, runWord], [], []⟩ }.wf = false := by decide

theorem test_wf_body_med : { Params.default with bodies := ⟨[], [runWord], []⟩ }.wf = false := by decide

theorem test_wf_body_slow : { Params.default with bodies := ⟨[], [], [runWord]⟩ }.wf = false := by decide

theorem test_wf_caps :
    capsWf ⟨0, 10, 10⟩ = false ∧ capsWf ⟨10, 65537, 10⟩ = false ∧ capsWf ⟨10, 10, 0⟩ = false ∧
      capsWf ⟨1, 65536, 10⟩ = true := by
  decide

/-! ### One step per instruction (section 2 of 95_test_vectors.md) -/

/-- V40-1b. -/
theorem test_tinit :
    (ran State.reset 0x01010000000186A0).map
        (fun t => (t.tLoad, t.tCount, t.readReg .tCtrl, t.readReg .tIntType, t.cfg)) =
      some (50#23, 50#23, 0xC4#32, 1#32, ⟨true, 100000#32, 1#2, 50#23⟩) := by
  decide

/-- V40-2, V40-3, V40-5 and V40-16: the four faults of TINIT. -/
theorem test_tinit_faults :
    ([0x0100000000000000, 0x0100000004C4B401, 0x0100000000000009, 0x01030000000186A0] : List Nat).map
        (reply State.reset) =
      [ok 1#4 1#32, ok 1#4 2#32, ok 1#4 3#32, ok 1#4 4#32] := by
  decide

/-- V40-18: from reset, TEN gives T_CTRL = 0x80. -/
theorem test_ten : (ran State.reset 0x0200000000000000).map (fun t => t.readReg .tCtrl) = some 0x80#32 := by decide

/-- V40-18: after V40-1c, TDIS gives T_CTRL = 0x48. -/
theorem test_tdis : (ran (ticking 3#23) 0x0300000000000000).map (fun t => t.readReg .tCtrl) = some 0x48#32 := by decide

/-- Table 2.3, N = 1. -/
theorem test_tdisp :
    (ran State.reset 0x0400000000000000).map (fun t => (t.cascM, t.cascS, t.flags)) =
      some (99#16, 999#16, ⟨true, false, false⟩) := by
  decide

/-- Table 2.3, N = 1000, from N = 999. -/
theorem test_tdisp_thousandth :
    (ran { State.reset with cascM := 1#16, cascS := 1#16, flags := ⟨true, true, false⟩ } 0x0400000000000000).map
        (fun t => (t.cascM, t.cascS, t.flags)) =
      some (100#16, 1000#16, ⟨true, true, true⟩) := by
  decide

/-- R136: RUN is accepted by an idle sequencer, without a response yet. -/
theorem test_run :
    (ran State.reset 0x0500000000000000).map (fun t => (t.seq, t.out)) = some (⟨.take .fast, 0⟩, []) := by decide

/-- P6, round 4: a RUN inside a callback body answers (5, 3), and the position moves on. -/
theorem test_run_nested :
    (after (step (running (.cb .slow) 0 (Tri.const false) ⟨[], [], [runWord]⟩))).map (fun t => (t.seq, t.out)) =
      some (⟨.cb .slow, 1⟩, [.response ⟨5#4, 3#32⟩]) := by
  decide

/-- V43-9. -/
theorem test_vinit :
    (ran (fastSlot0 ⟨2#16, true⟩) 0x0600000000000000).map (fun t => t.vc) =
      some (Tri.const (List.replicate 10 ⟨1#16, false⟩)) := by
  decide

/-- V43-2: VARM FAST, 9, 1. -/
theorem test_varm :
    (ran State.reset 0x0700000000090001).map (fun t => (t.slotAt .fast 9, t.slotAt .fast 8, t.slotAt .med 9)) =
      some (⟨1#16, true⟩, ⟨1#16, false⟩, ⟨1#16, false⟩) := by
  decide

/-- V30-10 and V43-3: VARM with a reserved pool, and beyond the capacity. -/
theorem test_varm_faults :
    reply State.reset 0x0703000000000001 = ok 2#4 1#32 ∧ reply State.reset 0x07000000000A0001 = ok 2#4 2#32 := by
  decide

/-- V43-8: a sweep touches its own pool only. -/
theorem test_vdec_other_pool :
    (ran (fastSlot0 ⟨2#16, true⟩) 0x0801000000000000).map (fun t => (t.slotAt .fast 0, t.slotAt .med 0)) =
      some (⟨2#16, true⟩, ⟨1#16, false⟩) := by
  decide

/-- P2: the fifth sweep of a slot armed with 5 clears armed; its neighbour stays. -/
theorem test_vdec_expires :
    (ran (fastSlot0 ⟨1#16, true⟩) 0x0800000000000000).map (fun t => (t.slotAt .fast 0, t.slotAt .fast 1)) =
      some (⟨0#16, false⟩, ⟨1#16, false⟩) := by
  decide

/-- V43-1, V43-5 and V43-11. -/
theorem test_vqry :
    reply State.reset 0x0900000000000000 = ok 0#4 1#32 ∧
      reply (fastSlot0 ⟨3#16, true⟩) 0x0900000000000000 = ok 0#4 0x00010003#32 ∧
      reply State.reset 0x09010000000A0000 = ok 2#4 2#32 := by
  decide

/-- Table 2.6, steps 3, 5 and 8, on a timer as TINIT 100000, DIV16 leaves it, at count 800. -/
theorem test_rdf :
    ([0x0A08002000000000, 0x0A04001700000000, 0x0A10000100000000, 0x0A08020200000000] : List Nat).map
        (reply { State.reset with tCount := 800#23, tCtrl := ⟨true, true, 1#2⟩, edge := true }) =
      [ok 0#4 0xC4#32, ok 0#4 0x320#32, ok 0#4 1#32, ok 0#4 1#32] := by
  decide

/-- Table 2.6, steps 12 to 18, and the row that is misaligned with an illegal width. -/
theorem test_rdf_checks :
    ([0x0A0C000100000000, 0x0A02000100000000, 0x0A08000000000000, 0x0A08002100000000, 0x0A081F0200000000, 0x0A08200100000000,
          0x0A081F0100000000, 0x0A02000000000000] : List Nat).map (reply State.reset) =
      [ok 3#4 2#32, ok 3#4 1#32, ok 4#4 1#32, ok 4#4 1#32, ok 4#4 2#32, ok 4#4 2#32, ok 0#4 0#32, ok 3#4 1#32] := by
  decide

/-- Table 2.6, steps 9 and 10: the value is narrowed to the field, and reserved bits are dropped. -/
theorem test_wrf_ctrl :
    ([0x0B080202FFFFFFFF, 0x0B080020FFFFFFFF] : List Nat).map
        (fun w => (ran { State.reset with tCtrl := ⟨true, true, 1#2⟩ } w).map fun t => t.readReg .tCtrl) =
      [some 0xCC#32, some 0xCC#32] := by
  decide

/-- Table 2.6, steps 19 and 11: T_LOAD loads T_COUNT too, and T_COUNT is read-only. -/
theorem test_wrf_load :
    (ran { State.reset with tLoad := 0x320#23, tCount := 7#23 } 0x0B0010100000ABCD).map (fun t => (t.tLoad, t.tCount)) =
        some (0x4D0320#23, 0x4D0320#23) ∧
      reply State.reset 0x0B04000100000001 = ok 3#4 3#32 := by
  decide

/-- R11 and R51: the bus address of T_CTRL, with the default base and with another one. -/
theorem test_bus_address :
    State.reset.busAddress (offsetOf .tCtrl) = 0x60000608 ∧
      ({ State.reset with par := { Params.default with regBase := 0x1000 } } : State).busAddress (offsetOf .tCtrl) = 0x1008 := by
  decide

/-! ### One step of each agent -/

/-- V40-19, ticks 2 and 3: the counter goes down, and at zero reloads with IRQ_PEND set. -/
theorem test_tick :
    (after (step (ticking 2#23))).map (fun t => (t.tCount, t.irqPend)) = some (1#23, false) ∧
      (after (step (ticking 1#23))).map (fun t => (t.tCount, t.irqPend)) = some (3#23, true) := by
  decide

/-- R109: the three refused ticks, by name. -/
theorem test_tick_refused :
    step { ticking 3#23 with tCtrl := ⟨true, true, 3#2⟩ } = .refused .tickReservedPrescaler ∧
      step { ticking 3#23 with tCtrl := ⟨true, false, 2#2⟩ } = .refused .tickNoAutoReload ∧
      step (ticking 0#23) = .refused .tickAtZero :=
  ⟨rfl, rfl, rfl⟩

/-- V40-19: one D.IRQ after the merged expiries. -/
theorem test_interrupt :
    (after (step { turnOf .dispatcher with irqPend := true })).map (fun t => (t.irqPend, t.cascM, t.cascS, t.flags)) =
      some (false, 99#16, 999#16, ⟨true, false, false⟩) := by
  decide

/-- V42-2: TAKE of a set flag clears it, pulses and enters the callback; an armed slot of the pool is swept. -/
theorem test_take :
    (after (step { running (.take .fast) 0 ⟨true, false, false⟩ (Tri.const []) with
        vc := (fastSlot0 ⟨3#16, true⟩).vc })).map (fun t => (t.flags.fast, t.out, t.seq, t.slotAt .fast 0)) =
      some (false, [.strobe .fast], ⟨.cb .fast, 0⟩, ⟨2#16, true⟩) := by
  decide

/-- R215: the reset turn. -/
theorem test_reset :
    (after (step { ticking 2#23 with sched := [.reset], flags := Tri.const true, cascM := 5#16 })).map State.dtu =
      some State.reset.dtu := by
  decide

/-! ### Witnesses: for every obligation with hypotheses, values that meet all of them together -/

/-- The state after reset with TEN waiting and the main context next. -/
def tenNext : State := State.reset.present tenWord

/-- The state after reset with any word waiting and the main context next. -/
def wordNext (w : Word64) : State := State.reset.present w

theorem witness_EncodeOfDecodeIsIdentity : decode 0x0B00001700000320#64 = .ok (.wrf 0x00#8 0#8 800#32 23#8) := by rfl

/-- Reserved opcodes 0x00, 0x0C and 0xFF; legal opcodes 0x01 and 0x0B at the ends of their range, with a word that no row selects for 0x01. -/
theorem witness_IllegalWordsFaultByName :
    (0x00FFFFFFFFFFFFFF#64).toNat / 2 ^ 56 = 0 ∧ (0x0C00000000000000#64).toNat / 2 ^ 56 = 12 ∧
      (0xFFFFFFFFFFFFFFFF#64).toNat / 2 ^ 56 = 255 ∧ (0x0104000000000005#64).toNat / 2 ^ 56 = 1 ∧
      (0x0A00000000000001#64).toNat / 2 ^ 56 = 10 ∧ (0x0B00000000000000#64).toNat / 2 ^ 56 = 11 ∧
      (∀ op : Opcode, op.selects 0x0104000000000005#64 = false) ∧
      ∀ op : Opcode, op.selects 0x0A00000000000001#64 = false := by
  refine ⟨by decide, by decide, by decide, by decide, by decide, by decide, ?_, ?_⟩ <;> intro op <;> cases op <;> decide

theorem witness_StepPerformsHostCommand :
    tenNext.nextTurn = .main ∧ tenNext.seq.phase = .idle ∧ tenNext.cmds = tenWord :: [] ∧ decode tenWord = .ok .ten :=
  ⟨rfl, rfl, rfl, rfl⟩

/-- The first and the last word of a body. -/
theorem witness_StepPerformsBodyCommand :
    (∀ pos ∈ [0, 1], (running (.cb .med) pos (Tri.const false) ⟨[], [tenWord, tenWord], []⟩).nextTurn = .main ∧
      (running (.cb .med) pos (Tri.const false) ⟨[], [tenWord, tenWord], []⟩).seq.phase = .cb .med ∧
      ((running (.cb .med) pos (Tri.const false) ⟨[], [tenWord, tenWord], []⟩).par.bodies.get .med)[pos]? = some tenWord) ∧
      decode tenWord = .ok .ten :=
  ⟨by decide, rfl⟩

theorem witness_StepAnswersIllegalWord :
    ((wordNext 0#64).nextTurn = .main ∧ decode 0#64 = .error .reservedOpcode ∧ (wordNext 0#64).seq.phase = .idle ∧
      (wordNext 0#64).cmds = 0#64 :: []) ∧
    ((running (.cb .fast) 0 (Tri.const false) ⟨[0x0200000000000001#64], [], []⟩).nextTurn = .main ∧
      decode 0x0200000000000001#64 = .error .reservedBits ∧
      (running (.cb .fast) 0 (Tri.const false) ⟨[0x0200000000000001#64], [], []⟩).seq.phase = .cb .fast ∧
      ((running (.cb .fast) 0 (Tri.const false) ⟨[0x0200000000000001#64], [], []⟩).par.bodies.get .fast)[0]? =
        some 0x0200000000000001#64) :=
  ⟨⟨rfl, rfl, rfl, rfl⟩, rfl, rfl, rfl, rfl⟩

theorem witness_DisabledAgentTakesNoStep :
    ((turnOf .timer).nextTurn = .timer ∧ (turnOf .timer).tCtrl.en = false) ∧
      ((turnOf .dispatcher).nextTurn = .dispatcher ∧ (turnOf .dispatcher).irqPend = false) ∧
      ((turnOf .main).nextTurn = .main ∧ (turnOf .main).seq.phase = .idle ∧ (turnOf .main).cmds = []) := by
  decide

theorem witness_PresentedWordIsPerformedNext : decodeTableWord 64 0x0700000000090001 = some (.varm 0#2 9#16 1#16) := by decide

/-- V40-4 (reload count 1), V40-11, V40-14's divisor, and the note below V40-16 (reload count 2^23 - 1 with CLK_HZ = 8 388 607). -/
theorem witness_TinitProgramsTimer :
    ((0#2, 1) ∈ divisors ∧ 80000000#32 ≠ 0#32 ∧ 1 = State.reset.par.clkHz / (1 * (80000000#32).toNat)) ∧
      ((1#2, 16) ∈ divisors ∧ 100000#32 ≠ 0#32 ∧ 50 = State.reset.par.clkHz / (16 * (100000#32).toNat)) ∧
      ((2#2, 256) ∈ divisors ∧ 1#32 ≠ 0#32 ∧ 312500 = State.reset.par.clkHz / (256 * (1#32).toNat)) ∧
      ((0#2, 1) ∈ divisors ∧ 1#32 ≠ 0#32 ∧
        8388607 = ({ State.reset with par := { Params.default with clkHz := 8388607 } }).par.clkHz / (1 * (1#32).toNat)) := by
  decide

/-- V40-16, V40-2, V40-3, and the note below V40-16 (CLK_HZ = 8 388 608, frequency 1). -/
theorem witness_TinitFaultsInOrder :
    (3#2 : Sel) = 3#2 ∧ ((0#2 : Sel) ≠ 3#2 ∧ (0#32 : Word32) = 0#32) ∧
      ((0#2, 1) ∈ divisors ∧ 80000001#32 ≠ 0#32 ∧ 0 = State.reset.par.clkHz / (1 * (80000001#32).toNat)) ∧
      ((0#2, 1) ∈ divisors ∧ 1#32 ≠ 0#32 ∧
        8388608 = ({ State.reset with par := { Params.default with clkHz := 8388608 } }).par.clkHz / (1 * (1#32).toNat) ∧
        8388607 < 8388608) := by
  decide

theorem witness_TinitEqualsSixFieldWrites :
    (1#2, 16) ∈ divisors ∧ 100000#32 ≠ 0#32 ∧ 50 = State.reset.par.clkHz / (16 * (100000#32).toNat) ∧ 1 ≤ 50 ∧
      50 ≤ 8388607 := by
  decide

theorem witness_RunBitIdempotence :
    (Instr.ten = .ten ∨ Instr.ten = .tdis) ∧ (Instr.tdis = .ten ∨ Instr.tdis = .tdis) := by decide

/-- The turn of the timer with EN = 0; with each of the three refused states; with T_COUNT = 2 and with T_COUNT = 1. -/
theorem witness_TimerTickCounts :
    ((turnOf .timer).nextTurn = .timer ∧ (turnOf .timer).tCtrl.en = false) ∧
      (({ ticking 3#23 with tCtrl := ⟨true, true, 3#2⟩ } : State).nextTurn = .timer ∧
        ({ ticking 3#23 with tCtrl := ⟨true, false, 2#2⟩ } : State).nextTurn = .timer ∧
        (ticking 0#23).nextTurn = .timer ∧ (ticking 0#23).tCtrl.en = true ∧ (ticking 0#23).tCount = 0#23) ∧
      ((ticking 2#23).nextTurn = .timer ∧ (ticking 2#23).tCtrl.en = true ∧ (ticking 2#23).tCtrl.ps ≠ 3#2 ∧
        (ticking 2#23).tCtrl.ar = true ∧ 2 ≤ (ticking 2#23).tCount.toNat) ∧
      ((ticking 1#23).nextTurn = .timer ∧ (ticking 1#23).tCtrl.en = true ∧ (ticking 1#23).tCtrl.ps ≠ 3#2 ∧
        (ticking 1#23).tCtrl.ar = true ∧ (ticking 1#23).tCount = 1#23) := by
  decide

theorem witness_OnlyRefusedTicksRefuse : step (ticking 0#23) = .refused .tickAtZero := by rfl

/-- An expiring tick of a configured timer, and a TEN on a configured timer. -/
theorem witness_StepKeepsTimerConfigured :
    ((ticking 1#23).TimerConfigured ∧ (ticking 1#23).nextTurn ≠ .reset ∧
      (∀ i, (ticking 1#23).performs = some i → i.isFieldWrite = false) ∧ ∃ t, step (ticking 1#23) = .next t) ∧
    (((ticking 1#23).present tenWord).TimerConfigured ∧ ((ticking 1#23).present tenWord).nextTurn ≠ .reset ∧
      (∀ i, ((ticking 1#23).present tenWord).performs = some i → i.isFieldWrite = false) ∧
      ∃ t, step ((ticking 1#23).present tenWord) = .next t) := by
  refine ⟨⟨by unfold State.TimerConfigured; decide, by decide, ?_, _, rfl⟩,
    ⟨by unfold State.TimerConfigured; decide, by decide, ?_, _, rfl⟩⟩
  · intro i h
    exact absurd h (by rw [show (ticking 1#23).performs = none from rfl]; simp)
  · intro i h
    rw [show ((ticking 1#23).present tenWord).performs = some .ten from rfl] at h
    cases h
    rfl

theorem witness_TinitConfiguresTimer :
    (∃ t, exec (.tinit 100000#32 2#2) State.reset = .next t ∧ t.out = .response ⟨0#4, 0#32⟩ :: State.reset.out) ∧
      (ticking 3#23).TimerConfigured :=
  ⟨⟨_, rfl, by decide⟩, by unfold State.TimerConfigured; decide⟩

/-- A turn of the timer with EN = 0, and a TEN with EN = 0. -/
theorem witness_DisabledTimerHoldsCount :
    ((turnOf .timer).tCtrl.en = false ∧ (turnOf .timer).nextTurn ≠ .reset ∧
      (∀ freq psel, (turnOf .timer).performs ≠ some (.tinit freq psel)) ∧
      (∀ boff val wid, (turnOf .timer).performs ≠ some (.wrf 0x00#8 boff val wid)) ∧ ∃ t, step (turnOf .timer) = .next t) ∧
    (tenNext.tCtrl.en = false ∧ tenNext.nextTurn ≠ .reset ∧ (∀ freq psel, tenNext.performs ≠ some (.tinit freq psel)) ∧
      (∀ boff val wid, tenNext.performs ≠ some (.wrf 0x00#8 boff val wid)) ∧ ∃ t, step tenNext = .next t) := by
  have h0 : (turnOf .timer).performs = none := rfl
  have h1 : tenNext.performs = some .ten := rfl
  exact ⟨⟨rfl, by decide, by simp [h0], by simp [h0], _, rfl⟩, rfl, by decide, by simp [h1], by simp [h1], _, rfl⟩

/-- TINIT as the host's next word, with a tick, a D.IRQ and a TDISP of the host to follow. -/
def initThenTick (w : Word64) : State :=
  { State.reset with
    irqPend := true, cmds := [w, 0x0400000000000000#64], sched := [.main, .timer, .dispatcher, .main] }

/-- Reload count 1 (V40-4): a tick, a D.IRQ and a TDISP follow; reload count 3 (V40-1c): a tick follows, and no turn of the dispatcher. -/
theorem witness_PeriodLaw :
    ((initThenTick 0x0100000004C4B400#64).performs = some (.tinit 80000000#32 0#2) ∧
      ∃ t, step (initThenTick 0x0100000004C4B400#64) = .next t ∧
        t.out = .response ⟨0#4, 0#32⟩ :: (initThenTick 0x0100000004C4B400#64).out ∧
        (∀ k < 3, ∀ v, runFor k t = .next v → v.nextTurn ≠ .reset ∧ ∀ i, v.performs = some i → i.writesTimer = false)) ∧
    ((initThenTick 0x01020000000186A0#64).performs = some (.tinit 100000#32 2#2) ∧
      ∃ t, step (initThenTick 0x01020000000186A0#64) = .next t ∧
        t.out = .response ⟨0#4, 0#32⟩ :: (initThenTick 0x01020000000186A0#64).out ∧
        (∀ k < 1, ∀ v, runFor k t = .next v → v.nextTurn ≠ .reset ∧ ∀ i, v.performs = some i → i.writesTimer = false) ∧
        ∀ k < 1, ∀ v, runFor k t = .next v → v.nextTurn ≠ .dispatcher) := by
  have quiet : ∀ v : State, v.nextTurn ≠ .reset → v.nextTurn ≠ .main →
      v.nextTurn ≠ .reset ∧ ∀ i, v.performs = some i → i.writesTimer = false := by
    intro v h1 h2
    simp [h1, State.performs, h2]
  refine ⟨⟨rfl, _, rfl, by decide, ?_⟩, rfl, _, rfl, by decide, ?_, ?_⟩
  · intro k hk v hv
    obtain rfl | rfl | rfl : k = 0 ∨ k = 1 ∨ k = 2 := by omega
    · cases hv
      exact quiet _ (by decide) (by decide)
    · cases hv
      exact quiet _ (by decide) (by decide)
    · cases hv
      refine ⟨by decide, fun i hi => ?_⟩
      cases hi
      rfl
  · intro k hk v hv
    obtain rfl : k = 0 := by omega
    cases hv
    exact quiet _ (by decide) (by decide)
  · intro k hk v hv
    obtain rfl : k = 0 := by omega
    cases hv
    decide

theorem witness_InterruptRunsHandler :
    ({ turnOf .dispatcher with irqPend := true } : State).nextTurn = .dispatcher ∧
      ({ turnOf .dispatcher with irqPend := true } : State).irqPend = true := by
  decide

/-- Both counters at their periods; both at 1. -/
theorem witness_CountingLaw :
    (State.reset.cascM = State.reset.par.mPeriod ∧ State.reset.cascS = State.reset.par.sPeriod ∧
      State.reset.par.mPeriod ≠ 0#16 ∧ State.reset.par.sPeriod ≠ 0#16) ∧
      State.reset.CascadesInRange ∧ ({ State.reset with cascM := 1#16, cascS := 1#16 } : State).CascadesInRange := by
  unfold State.CascadesInRange
  decide

theorem witness_RunIsAcceptedWhenIdle :
    State.reset.seq.phase = .idle ∧ (running (.take .fast) 0 (Tri.const false) (Tri.const [])).seq.phase ≠ .idle := by decide

theorem witness_TakeConsumesFlag :
    ∀ b ∈ [true, false],
      (running (.take .slow) 0 (Tri.const b) (Tri.const [])).nextTurn = .main ∧
        (running (.take .slow) 0 (Tri.const b) (Tri.const [])).seq.phase = .take .slow ∧
        (running (.take .slow) 0 (Tri.const b) (Tri.const [])).flags.get .slow = b := by
  decide

/-- An empty body at position 0, and a body of one word at position 1. -/
theorem witness_CallbackReturns :
    ∀ n ∈ [0, 1],
      (running (.cb .slow) n (Tri.const false) (Tri.const (List.replicate n tenWord))).nextTurn = .main ∧
        (running (.cb .slow) n (Tri.const false) (Tri.const (List.replicate n tenWord))).seq.phase = .cb .slow ∧
        ((running (.cb .slow) n (Tri.const false) (Tri.const (List.replicate n tenWord))).par.bodies.get .slow).length ≤ n := by
  decide

theorem witness_RunPassWithEmptyBodies :
    (running (.take .fast) 0 ⟨true, false, true⟩ (Tri.const [])).seq = ⟨.take .fast, 0⟩ ∧
      (running (.take .fast) 0 ⟨true, false, true⟩ (Tri.const [])).par.bodies = Tri.const [] := by
  decide

/-- At the start of a body, and at its end. -/
theorem witness_CallbackBodyCompletes :
    ∀ pos ∈ [0, 2],
      (running (.cb .fast) pos (Tri.const false) ⟨[tenWord, 0#64], [], []⟩).seq.phase = .cb .fast ∧
        pos ≤ ((running (.cb .fast) pos (Tri.const false) ⟨[tenWord, 0#64], [], []⟩).par.bodies.get .fast).length := by
  decide

theorem witness_EveryRunCompletes :
    (running (.take .fast) 0 (Tri.const true) (Tri.const [tenWord])).seq = ⟨.take .fast, 0⟩ := by rfl

/-- A TAKE step, which runs no handler, and a D.IRQ, which does. -/
theorem witness_StrobesAccountForTicks :
    ((∃ t, step (running (.take .fast) 0 (Tri.const true) (Tri.const [])) = .next t) ∧
      (running (.take .fast) 0 (Tri.const true) (Tri.const [])).nextTurn ≠ .reset ∧
      ¬(running (.take .fast) 0 (Tri.const true) (Tri.const [])).runsHandler) ∧
    ((∃ t, step { turnOf .dispatcher with irqPend := true } = .next t) ∧
      ({ turnOf .dispatcher with irqPend := true } : State).nextTurn ≠ .reset ∧
      ({ turnOf .dispatcher with irqPend := true } : State).runsHandler) := by
  refine ⟨⟨⟨_, rfl⟩, by decide, ?_⟩, ⟨_, rfl⟩, by decide, .inl ⟨rfl, rfl⟩⟩
  unfold State.runsHandler
  decide

/-- The first and the last slot of a pool. -/
theorem witness_VarmArmsOneSlot :
    (0#16 : Half).toNat < State.reset.cap .fast ∧ (9#16 : Half).toNat < State.reset.cap .slow := by decide

/-- The first index beyond the pool, and the last index there is. -/
theorem witness_SlotAddressChecks :
    State.reset.cap .fast ≤ (10#16 : Half).toNat ∧ State.reset.cap .slow ≤ (65535#16 : Half).toNat := by decide

theorem witness_VqryReturnsSlot :
    (0#16 : Half).toNat < State.reset.cap .fast ∧ (9#16 : Half).toNat < State.reset.cap .med := by decide

/-- One sweep of a slot armed with 1 (k = T), and one of a slot armed with 2 (k < T), among other commands. -/
theorem witness_CountdownOfCommands :
    (9#16 : Half).toNat < State.reset.cap .fast ∧ 1 ≤ (1#16 : Half).toNat ∧ 1 ≤ (2#16 : Half).toNat ∧
      (∀ c ∈ [Instr.vdec (selOf .fast), .ten, .varm (selOf .fast) 8#16 3#16],
        c ≠ .vinit ∧ ∀ x, c ≠ .varm (selOf .fast) 9#16 x) := by
  refine ⟨by decide, by decide, by decide, ?_⟩
  simp

/-- VARM FAST, 9, T of the host, and then VDEC FAST. -/
def armThenSweep (T : Word64) : State :=
  { State.reset with cmds := [0x0700000000090000#64 ||| T, 0x0800000000000000#64], sched := [.main, .main] }

/-- T = 1 and T = 2: the arming, and then one step that sweeps the pool and rewrites no slot. -/
theorem witness_CountdownLaw :
    ((9#16 : Half).toNat < (armThenSweep 1#64).cap .fast ∧ 1 ≤ (1#16 : Half).toNat ∧
      (armThenSweep 1#64).performs = some (.varm (selOf .fast) 9#16 1#16) ∧
      ∃ t, step (armThenSweep 1#64) = .next t ∧ (∀ k < 1, ∀ v, runFor k t = .next v → ¬v.rewritesSlot .fast 9#16) ∧
        (∃ u, runFor 1 t = .next u) ∧ t.countSweeps .fast 1 = 1) ∧
    (1 ≤ (2#16 : Half).toNat ∧ (armThenSweep 2#64).performs = some (.varm (selOf .fast) 9#16 2#16) ∧
      ∃ t, step (armThenSweep 2#64) = .next t ∧ (∀ k < 1, ∀ v, runFor k t = .next v → ¬v.rewritesSlot .fast 9#16) ∧
        (∃ u, runFor 1 t = .next u) ∧ t.countSweeps .fast 1 = 1) := by
  have key : ∀ v : State, v.performs = some (.vdec 0#2) → v.nextTurn = .main → ¬v.rewritesSlot .fast 9#16 := by
    intro v h1 h2 h
    simp [State.rewritesSlot, h1, h2] at h
  refine ⟨⟨by decide, by decide, rfl, _, rfl, ?_, ⟨_, rfl⟩, by decide⟩, by decide, rfl, _, rfl, ?_, ⟨_, rfl⟩, by decide⟩
  all_goals
    intro k hk v hv
    obtain rfl : k = 0 := by omega
    cases hv
    exact key _ rfl rfl

/-- The last slot of a pool; and a TAKE that sweeps a pool whose first slot is armed with 0. -/
theorem witness_ArmedWithZeroExpiresAtFirstSweep :
    (9#16 : Half).toNat < State.reset.cap .slow ∧
      (let s : State := { running (.take .fast) 0 (Tri.const true) (Tri.const []) with vc := (fastSlot0 ⟨0#16, true⟩).vc }
       0 < s.cap .fast ∧ s.sweepsPool .fast = true ∧ s.slotAt .fast 0 = ⟨0#16, true⟩ ∧ ∃ t, step s = .next t) :=
  ⟨by decide, by decide, by decide, by decide, _, rfl⟩

/-- The whole register, its highest bit, its lowest bit. -/
theorem witness_RdfReturnsField : FieldInside 0#8 32#8 ∧ FieldInside 31#8 1#8 ∧ FieldInside 0#8 1#8 := by
  unfold FieldInside
  decide

/-- Each clause at the values next to its neighbour's: offsets 3, 12, 4; widths 0, 33 and 255; positions 32 and 255, and the sum 33. -/
theorem witness_FieldChecksInOrder :
    ((0x03#8 : Byte).toNat % 4 ≠ 0) ∧
      ((0x0C#8 : Byte).toNat % 4 = 0 ∧ (0x0C#8 : Byte).toNat ∉ [0x00, 0x04, 0x08, 0x10]) ∧
      ((0x14#8 : Byte).toNat % 4 = 0 ∧ (0x14#8 : Byte).toNat ∉ [0x00, 0x04, 0x08, 0x10]) ∧
      ((0x04#8 : Byte).toNat = 0x04) ∧
      ((0#8 : Byte).toNat = 0 ∧ 32 < (33#8 : Byte).toNat ∧ 32 < (255#8 : Byte).toNat) ∧
      ((0x04#8 : Byte).toNat ∈ [0x00, 0x04, 0x08, 0x10] ∧ (0x10#8 : Byte).toNat ∈ [0x00, 0x08, 0x10]) ∧
      (1 ≤ (1#8 : Byte).toNat ∧ (1#8 : Byte).toNat ≤ 32 ∧ 31 < (32#8 : Byte).toNat) ∧
      (1 ≤ (32#8 : Byte).toNat ∧ (32#8 : Byte).toNat ≤ 32 ∧ 32 < (1#8 : Byte).toNat + (32#8 : Byte).toNat) := by
  decide

/-- The whole of T_LOAD, and bit 7 of T_CTRL. -/
theorem witness_WrfWritesField :
    (Reg.tLoad ≠ .tCount ∧ FieldInside 0#8 32#8) ∧ (Reg.tCtrl ≠ .tCount ∧ FieldInside 7#8 1#8) := by
  unfold FieldInside
  decide

theorem witness_FieldMaskCoversField : (1 ≤ 32 ∧ 32 ≤ 32 ∧ 0 + 32 ≤ 32) ∧ (1 ≤ 1 ∧ 1 ≤ 32 ∧ 31 + 1 ≤ 32) := by decide

/-- A 23-bit value into T_LOAD with a tick and a handler run between; the field is implemented whole. -/
theorem witness_FieldRoundTrip :
    Reg.tLoad ≠ .tCount ∧ FieldInside 0#8 23#8 ∧ (800#32).toNat < 2 ^ (23#8 : Byte).toNat ∧
      (∃ t, exec (.wrf (offsetOf .tLoad) 0#8 800#32 23#8) { ticking 3#23 with irqPend := true } = .next t ∧
        ∃ u, turnSeq [.timer, .dispatcher] t = .next u) ∧
      (∀ a ∈ [Turn.timer, .dispatcher], a = .timer ∨ a = .dispatcher) ∧
      (∀ k, (0#8 : Byte).toNat ≤ k → k < (0#8 : Byte).toNat + (23#8 : Byte).toNat → implemented .tLoad k = true) := by
  refine ⟨by decide, by unfold FieldInside; decide, by decide, ⟨_, rfl, _, rfl⟩, by decide, ?_⟩
  intro k _ h
  simpa [implemented] using h

theorem witness_FaultsChangeNoState :
    perform 0#64 State.reset = .next (State.reset.respond ⟨5#4, 1#32⟩) ∧
      (State.reset.respond ⟨5#4, 1#32⟩).out = .response ⟨5#4, 1#32⟩ :: State.reset.out ∧ (5#4 : BitVec 4) ≠ 0#4 :=
  ⟨rfl, rfl, by decide⟩

/-- V40-16, and an illegal word. -/
theorem witness_EveryFaultIsOfItsOperation :
    (perform 0x01030000000186A0#64 State.reset = .next (State.reset.respond ⟨1#4, 4#32⟩) ∧
      (State.reset.respond ⟨1#4, 4#32⟩).out = .response ⟨1#4, 4#32⟩ :: State.reset.out ∧ (1#4 : BitVec 4) ≠ 0#4) ∧
    (perform 0#64 State.reset = .next (State.reset.respond ⟨5#4, 1#32⟩) ∧ (5#4 : BitVec 4) ≠ 0#4) :=
  ⟨⟨rfl, rfl, by decide⟩, rfl, by decide⟩

/-- R187: the rows of the table in its order, as responses. -/
theorem test_fault_codes :
    [CmdFault.freqZero, .reloadZero, .reloadTooBig, .prescalerReserved, .poolReserved, .indexOutOfRange, .misaligned, .unmapped,
        .readOnly, .badWidth, .fieldOutside, .reservedOpcode, .reservedBits, .nestedRun].map
        (fun f => (faultResponse f).bits.toNat) =
      [0x100000001, 0x100000002, 0x100000003, 0x100000004, 0x200000001, 0x200000002, 0x300000001, 0x300000002, 0x300000003,
        0x400000001, 0x400000002, 0x500000001, 0x500000002, 0x500000003] := by
  decide

theorem witness_CommandFrame :
    (∃ t, exec .ten State.reset = .next t) ∧ Instr.ten ≠ .run ∧ Instr.ten ≠ .tdisp ∧ (∀ freq psel, Instr.ten ≠ .tinit freq psel) ∧
      (∃ t, exec .tdisp State.reset = .next t) ∧ Instr.tdisp.writesTimer = false ∧ Instr.tdisp.writesSlots = false :=
  ⟨⟨_, rfl⟩, by decide, by decide, by simp, ⟨_, rfl⟩, by decide, by decide⟩

/-- A TAKE step that clears a set flag, with no handler run. -/
theorem witness_OnlyHandlerSetsFlags :
    ∃ t, step (running (.take .med) 0 (Tri.const true) (Tri.const [])) = .next t ∧
      (running (.take .med) 0 (Tri.const true) (Tri.const [])).nextTurn ≠ .reset ∧
      ¬(running (.take .med) 0 (Tri.const true) (Tri.const [])).runsHandler ∧
      (running (.take .med) 0 (Tri.const true) (Tri.const [])).flags.get .med = true ∧ t.flags.get .med = false := by
  refine ⟨_, rfl, by decide, ?_, by decide, by decide⟩
  unfold State.runsHandler
  decide

/-- An expiry that sets IRQ_PEND, and a D.IRQ that clears it. -/
theorem witness_PendingInterruptWriters :
    (∃ t, step (ticking 1#23) = .next t ∧ (ticking 1#23).irqPend = false ∧ t.irqPend = true) ∧
      ∃ t, step { turnOf .dispatcher with irqPend := true } = .next t ∧
        ({ turnOf .dispatcher with irqPend := true } : State).irqPend = true ∧ t.irqPend = false :=
  ⟨⟨_, rfl, by decide, by decide⟩, _, rfl, by decide, by decide⟩

/-- A D.IRQ: no timer's turn, nothing performed. -/
theorem witness_OnlyDriverWritesTimerRegisters :
    (∃ t, step { turnOf .dispatcher with irqPend := true } = .next t) ∧
      ({ turnOf .dispatcher with irqPend := true } : State).nextTurn ≠ .reset ∧
      ({ turnOf .dispatcher with irqPend := true } : State).nextTurn ≠ .timer ∧
      (∀ i, ({ turnOf .dispatcher with irqPend := true } : State).performs = some i → i.writesTimer = false) ∧
      ∀ freq psel, ({ turnOf .dispatcher with irqPend := true } : State).performs ≠ some (.tinit freq psel) := by
  have h : ({ turnOf .dispatcher with irqPend := true } : State).performs = none := rfl
  exact ⟨⟨_, rfl⟩, by decide, by decide, by simp [h], by simp [h]⟩

/-- TEN of the host. -/
theorem witness_OnlyMainContextWritesPools :
    (∃ t, step tenNext = .next t) ∧ tenNext.nextTurn ≠ .reset ∧ (∀ i, tenNext.performs = some i → i.writesSlots = false) ∧
      (tenNext.nextTurn = .main → ∀ g, tenNext.seq.phase ≠ .take g) := by
  have h : tenNext.performs = some .ten := rfl
  refine ⟨⟨_, rfl⟩, by decide, ?_, ?_⟩
  · intro i hi
    rw [h] at hi
    cases hi
    rfl
  · intro _ g
    cases g <;> decide

/-- The first and the last slot of a pool after reset. -/
theorem witness_ResetStateOfTable :
    State.reset = State.resetWith Params.default Config.defaultCaps ∧ 0 < State.reset.cap .fast ∧ 9 < State.reset.cap .slow :=
  ⟨rfl, by decide, by decide⟩

theorem witness_ResetTurnRestoresResetState : (turnOf .reset).nextTurn = .reset := by rfl

/-- The defaults, and the smallest and largest capacities. -/
theorem witness_InvariantHoldsAtReset :
    Params.default.wf = true ∧ capsWf Config.defaultCaps = true ∧ capsWf ⟨1, 65536, 1⟩ = true := by decide

/-- An expiring tick in a state that meets the invariant. -/
theorem witness_StepKeepsInvariant : (ticking 1#23).Inv ∧ ∃ t, step (ticking 1#23) = .next t := by
  refine ⟨⟨by decide, by decide, ?_, rfl, ?_, ?_⟩, _, rfl⟩
  · unfold State.CascadesInRange
    decide
  · intro p x hx _
    have h : x = Slot.initial := List.eq_of_mem_replicate (n := 10) (by cases p <;> exact hx)
    exact .inl (by rw [h]; rfl)
  · intro r hr
    exact absurd hr (List.not_mem_nil)

/-- An expiring tick of a timer that the latch describes (V40-1c). -/
theorem witness_StepKeepsLatchDescribingTimer :
    (ticking 1#23).cfg.valid = true ∧ (ticking 1#23).LatchDescribesTimer ∧
      (∀ boff val wid, (ticking 1#23).performs ≠ some (.wrf 0x00#8 boff val wid)) ∧
      (∀ boff val wid, (ticking 1#23).performs ≠ some (.wrf 0x08#8 boff val wid)) ∧ ∃ t, step (ticking 1#23) = .next t := by
  have h : (ticking 1#23).performs = none := rfl
  exact ⟨rfl, fun _ => ⟨rfl, rfl, 256, rfl, by decide⟩, by simp [h], by simp [h], _, rfl⟩

theorem witness_QuiescentStateStaysPut :
    (turnOf .main).Quiescent ∧ (turnOf .main).nextTurn ≠ .reset ∧ ((turnOf .main).nextTurn = .main → (turnOf .main).cmds = []) := by
  unfold State.Quiescent
  decide

end Sys2Proof.Tests
end

section
/-!
PROOFS. The scope family: a step of the idle main context, and the invariant right after reset.
-/

namespace Sys2Proof

/-- Parameters in range have both cascade periods at least 1 (R6). -/
theorem Params.one_le_periods_of_wf {par : Params} (h : par.wf = true) :
    1 ≤ par.mPeriod.toNat ∧ 1 ≤ par.sPeriod.toNat := by
  simp only [Params.wf, Bool.and_eq_true, bne_iff_ne] at h
  obtain ⟨⟨⟨⟨⟨-, hm⟩, hs⟩, -⟩, -⟩, -⟩ := h
  exact ⟨by bv_omega, by bv_omega⟩

namespace Machine

/-! ### A step of the idle main context (R14, R24, R60, R79) -/

/-- A word that decodes is performed as its instruction. -/
theorem perform_of_decode_ok {w : Word64} {i : Instr} (hw : decode w = .ok i) (s : State) : perform w s = exec i s := by
  simp only [perform, hw]

/-- With the sequencer idle, the main context's turn performs the first word of the host's queue. -/
theorem mainTurn_of_idle {s : State} {w : Word64} {ws : List Word64} (hidle : s.seq.phase = .idle)
    (hcmds : s.cmds = w :: ws) : mainTurn s = perform w { s with cmds := ws } := by
  simp only [mainTurn, hidle, issueCommand, hcmds]

theorem step_of_nextTurn_main {s : State} (hturn : s.nextTurn = .main) : step s = mainTurn s.takeTurn := by
  simp only [step, hturn, agentTurn]

/-- Settles O6: the step is the main context's turn, that turn performs the queue's first word, and the word decodes. That
words and turns come from lists in State is the model's choice (log entries 1 and 3). -/
theorem stepPerformsHostCommand : Obligations.StepPerformsHostCommand := by
  intro s w ws i hturn hidle hcmds hw
  calc step s = mainTurn s.takeTurn := step_of_nextTurn_main hturn
    _ = perform w { s.takeTurn with cmds := ws } := mainTurn_of_idle hidle hcmds
    _ = exec i { s.takeTurn with cmds := ws } := perform_of_decode_ok hw _

/-! ### The state after reset (R36) -/

@[simp] theorem State.caps_resetWith (par : Params) (caps : Tri Nat) : (State.resetWith par caps).caps = caps := by
  simp [State.caps, State.resetWith, Tri.map]

/-- After reset every slot of every pool is initial. -/
theorem State.eq_initial_of_mem_resetWith {par : Params} {caps : Tri Nat} {p : Gran} {x : Slot}
    (hx : x ∈ (State.resetWith par caps).vc.get p) : x = Slot.initial := by
  simp only [State.resetWith, Tri.get_map] at hx
  exact List.eq_of_mem_replicate hx

/-- Settles O57: the cascade counters start at their periods, the sequencer is idle at position 0, every slot is initial and
no response has been given. -/
theorem invariantHoldsAtReset : Obligations.InvariantHoldsAtReset := by
  intro par caps hpar hcaps
  obtain ⟨hm, hs⟩ := Params.one_le_periods_of_wf hpar
  exact {
    params := hpar
    caps := by rwa [State.caps_resetWith]
    cascades := ⟨⟨hm, Nat.le_refl _⟩, ⟨hs, Nat.le_refl _⟩⟩
    sequencer := rfl
    slots := fun _ _ hx _ => .inl (congrArg Slot.value (State.eq_initial_of_mem_resetWith hx))
    statuses := fun _ hr => absurd hr List.not_mem_nil }

end Machine

end Sys2Proof
end

section
/-!
PROOFS. The state family: what the handler, a tick, a register write and the scheduler's micro-steps leave unchanged.
-/

namespace Sys2Proof

theorem Tri.map_set_of_eq {α β : Type} {f : α → β} {t : Tri α} {g : Gran} {x : α} (h : f x = f (t.get g)) :
    (t.set g x).map f = t.map f :=
  Tri.ext_get fun p => by by_cases hp : p = g <;> simp [Tri.get_set, hp, h]

namespace Machine

/-! ### What the handler leaves unchanged (R121) -/

@[simp] theorem State.handler_cfg (s : State) : s.handler.cfg = s.cfg := by rw [State.handler_eq]
@[simp] theorem State.handler_seq (s : State) : s.handler.seq = s.seq := by rw [State.handler_eq]
@[simp] theorem State.handler_tLoad (s : State) : s.handler.tLoad = s.tLoad := by rw [State.handler_eq]
@[simp] theorem State.handler_tCount (s : State) : s.handler.tCount = s.tCount := by rw [State.handler_eq]
@[simp] theorem State.handler_tCtrl (s : State) : s.handler.tCtrl = s.tCtrl := by rw [State.handler_eq]
@[simp] theorem State.handler_edge (s : State) : s.handler.edge = s.edge := by rw [State.handler_eq]
@[simp] theorem State.handler_vc (s : State) : s.handler.vc = s.vc := by rw [State.handler_eq]
@[simp] theorem State.handler_irqPend (s : State) : s.handler.irqPend = s.irqPend := by rw [State.handler_eq]
@[simp] theorem State.handler_out (s : State) : s.handler.out = s.out := by rw [State.handler_eq]
@[simp] theorem State.handler_par (s : State) : s.handler.par = s.par := by rw [State.handler_eq]
@[simp] theorem State.handler_cmds (s : State) : s.handler.cmds = s.cmds := by rw [State.handler_eq]
@[simp] theorem State.handler_sched (s : State) : s.handler.sched = s.sched := by rw [State.handler_eq]
@[simp] theorem State.handler_turns (s : State) : s.handler.turns = s.turns := by rw [State.handler_eq]

/-! ### What a tick leaves unchanged (R108) -/

@[simp] theorem State.count_cascM (s : State) : s.count.cascM = s.cascM := by rw [State.count_eq]
@[simp] theorem State.count_cascS (s : State) : s.count.cascS = s.cascS := by rw [State.count_eq]
@[simp] theorem State.count_cfg (s : State) : s.count.cfg = s.cfg := by rw [State.count_eq]
@[simp] theorem State.count_seq (s : State) : s.count.seq = s.seq := by rw [State.count_eq]
@[simp] theorem State.count_flags (s : State) : s.count.flags = s.flags := by rw [State.count_eq]
@[simp] theorem State.count_tLoad (s : State) : s.count.tLoad = s.tLoad := by rw [State.count_eq]
@[simp] theorem State.count_tCtrl (s : State) : s.count.tCtrl = s.tCtrl := by rw [State.count_eq]
@[simp] theorem State.count_edge (s : State) : s.count.edge = s.edge := by rw [State.count_eq]
@[simp] theorem State.count_vc (s : State) : s.count.vc = s.vc := by rw [State.count_eq]
@[simp] theorem State.count_out (s : State) : s.count.out = s.out := by rw [State.count_eq]
@[simp] theorem State.count_par (s : State) : s.count.par = s.par := by rw [State.count_eq]
@[simp] theorem State.count_cmds (s : State) : s.count.cmds = s.cmds := by rw [State.count_eq]
@[simp] theorem State.count_sched (s : State) : s.count.sched = s.sched := by rw [State.count_eq]
@[simp] theorem State.count_turns (s : State) : s.count.turns = s.turns := by rw [State.count_eq]

/-! ### What a register write leaves unchanged (R53) -/

@[simp] theorem State.writeReg_cascM (s : State) (r : Reg) (v : Word32) : (s.writeReg r v).cascM = s.cascM := by rw [State.writeReg_eq]
@[simp] theorem State.writeReg_cascS (s : State) (r : Reg) (v : Word32) : (s.writeReg r v).cascS = s.cascS := by rw [State.writeReg_eq]
@[simp] theorem State.writeReg_cfg (s : State) (r : Reg) (v : Word32) : (s.writeReg r v).cfg = s.cfg := by rw [State.writeReg_eq]
@[simp] theorem State.writeReg_seq (s : State) (r : Reg) (v : Word32) : (s.writeReg r v).seq = s.seq := by rw [State.writeReg_eq]
@[simp] theorem State.writeReg_flags (s : State) (r : Reg) (v : Word32) : (s.writeReg r v).flags = s.flags := by rw [State.writeReg_eq]
@[simp] theorem State.writeReg_vc (s : State) (r : Reg) (v : Word32) : (s.writeReg r v).vc = s.vc := by rw [State.writeReg_eq]
@[simp] theorem State.writeReg_irqPend (s : State) (r : Reg) (v : Word32) : (s.writeReg r v).irqPend = s.irqPend := by rw [State.writeReg_eq]
@[simp] theorem State.writeReg_out (s : State) (r : Reg) (v : Word32) : (s.writeReg r v).out = s.out := by rw [State.writeReg_eq]
@[simp] theorem State.writeReg_par (s : State) (r : Reg) (v : Word32) : (s.writeReg r v).par = s.par := by rw [State.writeReg_eq]
@[simp] theorem State.writeReg_cmds (s : State) (r : Reg) (v : Word32) : (s.writeReg r v).cmds = s.cmds := by rw [State.writeReg_eq]
@[simp] theorem State.writeReg_sched (s : State) (r : Reg) (v : Word32) : (s.writeReg r v).sched = s.sched := by rw [State.writeReg_eq]
@[simp] theorem State.writeReg_turns (s : State) (r : Reg) (v : Word32) : (s.writeReg r v).turns = s.turns := by rw [State.writeReg_eq]

/-! ### What TAKE leaves unchanged (R137) -/

@[simp] theorem State.take_cascM (s : State) (g : Gran) : (s.take g).cascM = s.cascM := by rw [State.take_eq]
@[simp] theorem State.take_cascS (s : State) (g : Gran) : (s.take g).cascS = s.cascS := by rw [State.take_eq]
@[simp] theorem State.take_cfg (s : State) (g : Gran) : (s.take g).cfg = s.cfg := by rw [State.take_eq]
@[simp] theorem State.take_tLoad (s : State) (g : Gran) : (s.take g).tLoad = s.tLoad := by rw [State.take_eq]
@[simp] theorem State.take_tCount (s : State) (g : Gran) : (s.take g).tCount = s.tCount := by rw [State.take_eq]
@[simp] theorem State.take_tCtrl (s : State) (g : Gran) : (s.take g).tCtrl = s.tCtrl := by rw [State.take_eq]
@[simp] theorem State.take_edge (s : State) (g : Gran) : (s.take g).edge = s.edge := by rw [State.take_eq]
@[simp] theorem State.take_irqPend (s : State) (g : Gran) : (s.take g).irqPend = s.irqPend := by rw [State.take_eq]
@[simp] theorem State.take_par (s : State) (g : Gran) : (s.take g).par = s.par := by rw [State.take_eq]
@[simp] theorem State.take_cmds (s : State) (g : Gran) : (s.take g).cmds = s.cmds := by rw [State.take_eq]
@[simp] theorem State.take_sched (s : State) (g : Gran) : (s.take g).sched = s.sched := by rw [State.take_eq]
@[simp] theorem State.take_turns (s : State) (g : Gran) : (s.take g).turns = s.turns := by rw [State.take_eq]

/-! ### What leaving a granularity leaves unchanged (R137, R139) -/

@[simp] theorem State.leave_cascM (s : State) (g : Gran) : (s.leave g).cascM = s.cascM := by rw [State.leave_eq]
@[simp] theorem State.leave_cascS (s : State) (g : Gran) : (s.leave g).cascS = s.cascS := by rw [State.leave_eq]
@[simp] theorem State.leave_cfg (s : State) (g : Gran) : (s.leave g).cfg = s.cfg := by rw [State.leave_eq]
@[simp] theorem State.leave_flags (s : State) (g : Gran) : (s.leave g).flags = s.flags := by rw [State.leave_eq]
@[simp] theorem State.leave_tLoad (s : State) (g : Gran) : (s.leave g).tLoad = s.tLoad := by rw [State.leave_eq]
@[simp] theorem State.leave_tCount (s : State) (g : Gran) : (s.leave g).tCount = s.tCount := by rw [State.leave_eq]
@[simp] theorem State.leave_tCtrl (s : State) (g : Gran) : (s.leave g).tCtrl = s.tCtrl := by rw [State.leave_eq]
@[simp] theorem State.leave_edge (s : State) (g : Gran) : (s.leave g).edge = s.edge := by rw [State.leave_eq]
@[simp] theorem State.leave_vc (s : State) (g : Gran) : (s.leave g).vc = s.vc := by rw [State.leave_eq]
@[simp] theorem State.leave_irqPend (s : State) (g : Gran) : (s.leave g).irqPend = s.irqPend := by rw [State.leave_eq]
@[simp] theorem State.leave_par (s : State) (g : Gran) : (s.leave g).par = s.par := by rw [State.leave_eq]
@[simp] theorem State.leave_cmds (s : State) (g : Gran) : (s.leave g).cmds = s.cmds := by rw [State.leave_eq]
@[simp] theorem State.leave_sched (s : State) (g : Gran) : (s.leave g).sched = s.sched := by rw [State.leave_eq]
@[simp] theorem State.leave_turns (s : State) (g : Gran) : (s.leave g).turns = s.turns := by rw [State.leave_eq]


/-! ### Capacities (R7) -/

@[simp] theorem State.caps_sweep (s : State) (p : Gran) : (s.sweep p).caps = s.caps :=
  Tri.map_set_of_eq (List.length_map _)

@[simp] theorem State.caps_setSlot (s : State) (p : Gran) (i : Nat) (x : Slot) : (s.setSlot p i x).caps = s.caps :=
  Tri.map_set_of_eq List.length_set

@[simp] theorem State.caps_respond (s : State) (r : Response) : (s.respond r).caps = s.caps := rfl

theorem map_length_initPools (v : Tri (List Slot)) : (v.map initPool).map List.length = v.map List.length :=
  Tri.ext_get fun p => by simp [initPool]

end Machine

end Sys2Proof
end

section
/-!
PROOFS. The state family: the frame of every command, and what a step can do to the registers of the DTU.
-/

namespace Sys2Proof.Machine

/-! ### The frame of a command (R23, R197) -/

/-- Settles O50: a fault writes the history alone, and what a performed command writes is its row of R77. -/
theorem commandFrame : Obligations.CommandFrame := by
  intro i s t h
  rcases exec_cases h with ⟨f, rfl⟩ | h
  · simp
  · cases i <;> simp only at h
    case ten | tdis | tdisp => subst h; simp [Instr.writesTimer, State.caps]
    case run => obtain ⟨-, rfl⟩ := h; simp [State.caps]
    case vinit => subst h; simp [Instr.writesSlots, State.caps, map_length_initPools]
    case tinit | wrf => obtain ⟨_, -, rfl⟩ := h; simp [Instr.writesTimer, State.caps]
    case varm | vdec => obtain ⟨_, -, rfl⟩ := h; simp [Instr.writesSlots]
    case vqry | rdf => obtain ⟨_, -, rfl⟩ := h; simp

/-! ### What a step can do to the registers -/

/-- Two states agree on the state of the DTU but RUNSEQ, and on the parameters; their histories and the host's sides may differ. -/
structure State.SameRegisters (t s : State) : Prop where
  cascM : t.cascM = s.cascM
  cascS : t.cascS = s.cascS
  cfg : t.cfg = s.cfg
  flags : t.flags = s.flags
  tLoad : t.tLoad = s.tLoad
  tCount : t.tCount = s.tCount
  tCtrl : t.tCtrl = s.tCtrl
  edge : t.edge = s.edge
  vc : t.vc = s.vc
  irqPend : t.irqPend = s.irqPend
  par : t.par = s.par

/-- States that differ in RUNSEQ, the history and the host's side alone have the same registers. -/
theorem State.sameRegisters_of_eq {t s : State}
    (h : t = { s with seq := t.seq, out := t.out, cmds := t.cmds, sched := t.sched, turns := t.turns }) :
    t.SameRegisters s := by
  rw [h]
  exact ⟨rfl, rfl, rfl, rfl, rfl, rfl, rfl, rfl, rfl, rfl, rfl⟩

/-- Everything a turn of the main context can do to the registers: nothing, a command, a TAKE. -/
theorem main_step_registers {s t : State} (hturn : s.nextTurn = .main) (h : mainTurn s.takeTurn = .next t) :
    t.SameRegisters s ∨
      (∃ i cmds u, s.performs = some i ∧ exec i { s.takeTurn with cmds := cmds } = .next u ∧ t.SameRegisters u) ∨
      (∃ g, s.seq.phase = .take g ∧ t.SameRegisters (s.takeTurn.take g)) := by
  rcases main_step_cases hturn h with rfl | ⟨i, cmds, u, hi, hu, rfl | ⟨-, rfl⟩⟩ | ⟨f, cmds, rfl⟩ | ⟨f, g, -, -, rfl⟩ |
    ⟨g, hg, rfl⟩ | ⟨g, -, -, rfl⟩
  · exact .inl (State.sameRegisters_of_eq rfl)
  · exact .inr (.inl ⟨i, cmds, t, hi, hu, State.sameRegisters_of_eq rfl⟩)
  · exact .inr (.inl ⟨i, cmds, u, hi, hu, State.sameRegisters_of_eq rfl⟩)
  · exact .inl (State.sameRegisters_of_eq rfl)
  · exact .inl (State.sameRegisters_of_eq rfl)
  · exact .inr (.inr ⟨g, hg, State.sameRegisters_of_eq rfl⟩)
  · exact .inl (State.sameRegisters_of_eq (by rw [State.leave_eq]; rfl))

/-- Everything a step can do to the registers: nothing, a tick, a D.IRQ, a command, a TAKE, a reset. -/
theorem step_registers {s t : State} (h : step s = .next t) :
    t.SameRegisters s ∨
      (s.nextTurn = .timer ∧ s.tCtrl.en = true ∧ t = s.takeTurn.count) ∨
      (s.nextTurn = .dispatcher ∧ s.irqPend = true ∧ t = s.takeTurn.enterInterrupt.handler) ∨
      (∃ i cmds u, s.nextTurn = .main ∧ s.performs = some i ∧ exec i { s.takeTurn with cmds := cmds } = .next u ∧
        t.SameRegisters u) ∨
      (∃ g, s.nextTurn = .main ∧ s.seq.phase = .take g ∧ t.SameRegisters (s.takeTurn.take g)) ∨
      (s.nextTurn = .reset ∧ t = s.takeTurn.restart) := by
  rcases step_cases h with ⟨hturn, ht⟩ | ⟨hturn, ht⟩ | ⟨hturn, ht⟩ | ⟨hturn, rfl⟩
  · rcases timerTurn_eq_next.1 ht with ⟨-, rfl⟩ | ⟨hen, -, -, -, rfl⟩
    · exact .inl (State.sameRegisters_of_eq rfl)
    · exact .inr (.inl ⟨hturn, hen, rfl⟩)
  · rcases dispatcherTurn_eq_next.1 ht with ⟨hirq, rfl⟩ | ⟨-, rfl⟩
    · exact .inr (.inr (.inl ⟨hturn, hirq, rfl⟩))
    · exact .inl (State.sameRegisters_of_eq rfl)
  · rcases main_step_registers hturn ht with hr | ⟨i, cmds, u, hi, hu, hr⟩ | ⟨g, hg, hr⟩
    · exact .inl hr
    · exact .inr (.inr (.inr (.inl ⟨i, cmds, u, hturn, hi, hu, hr⟩)))
    · exact .inr (.inr (.inr (.inr (.inl ⟨g, hturn, hg, hr⟩))))
  · exact .inr (.inr (.inr (.inr (.inr ⟨hturn, rfl⟩))))

end Sys2Proof.Machine
end

section
/-!
PROOFS. The state family: which steps write the cascade counters, the flags, IRQ_PEND, the timer registers, the latch and the pools.
-/

namespace Sys2Proof.Machine

/-! ### The cascade counters and the flags (R21, R25, R121, R137) -/

/-- The handler sets flags and clears none. -/
theorem State.handler_flags_get {s : State} {g : Gran} (h : s.flags.get g = true) : s.handler.flags.get g = true := by
  cases g <;> simp_all [State.handler_flags, Tri.get]

/-- TAKE(g) leaves FLAG[g] clear, whether it was set or not, and the other flags as they were (R137). -/
theorem State.take_flags (s : State) (g : Gran) : (s.take g).flags = s.flags.set g false := by
  unfold State.take
  split
  · simp [State.sweepIfEnabled_eq]
  · next hclear =>
    rw [Bool.not_eq_true] at hclear
    rw [State.leave_flags, ← hclear, Tri.set_get_self]

/-- What the handler computes depends on the cascade counters, the flags and the periods alone. -/
theorem State.handler_congr {s u : State} (hM : u.cascM = s.cascM) (hS : u.cascS = s.cascS) (hF : u.flags = s.flags)
    (hP : u.par = s.par) :
    u.handler.cascM = s.handler.cascM ∧ u.handler.cascS = s.handler.cascS ∧ u.handler.flags = s.handler.flags := by
  simp only [State.handler_cascM, State.handler_cascS, State.handler_flags]
  rw [hM, hS, hF, hP]
  exact ⟨rfl, rfl, rfl⟩

/-- Everything a step can do to the cascade counters and the flags, reset apart: nothing, a run of the handler, the clearing of one flag by its
TAKE. -/
theorem step_cascades_flags {s t : State} (h : step s = .next t) (hreset : s.nextTurn ≠ .reset) :
    (t.cascM = s.cascM ∧ t.cascS = s.cascS ∧ t.flags = s.flags) ∨
      (s.runsHandler ∧ t.cascM = s.handler.cascM ∧ t.cascS = s.handler.cascS ∧ t.flags = s.handler.flags) ∨
      (∃ g, s.nextTurn = .main ∧ s.seq.phase = .take g ∧
        t.cascM = s.cascM ∧ t.cascS = s.cascS ∧ t.flags = s.flags.set g false) := by
  rcases step_registers h with hr | ⟨-, -, rfl⟩ | ⟨hturn, hirq, rfl⟩ | ⟨i, ws, u, -, hi, hu, hr⟩ | ⟨g, hturn, hg, hr⟩ |
    ⟨hturn, -⟩
  · exact .inl ⟨hr.cascM, hr.cascS, hr.flags⟩
  · exact .inl (by simp)
  · exact .inr (.inl ⟨.inl ⟨hturn, hirq⟩, State.handler_congr rfl rfl rfl rfl⟩)
  · rw [hr.cascM, hr.cascS, hr.flags]
    by_cases htd : i = .tdisp
    · subst htd
      cases hu
      exact .inr (.inl ⟨.inr hi, State.handler_congr rfl rfl rfl rfl⟩)
    · obtain ⟨-, -, hhandler, -⟩ := commandFrame _ _ _ hu
      exact .inl (hhandler htd)
  · exact .inr (.inr ⟨g, hturn, hg, by simp [hr.cascM], by simp [hr.cascS], by simp [hr.flags, State.take_flags]⟩)
  · exact absurd hturn hreset

/-- Settles O51: outside a run of the handler the counters stay and flags are at most cleared; a set flag is cleared by its TAKE
alone, since the handler only sets. -/
theorem onlyHandlerSetsFlags : Obligations.OnlyHandlerSetsFlags := by
  intro s t h hreset
  rcases step_cascades_flags h hreset with ⟨hM, hS, hF⟩ | ⟨hrun, -, -, hF⟩ | ⟨g, hturn, hg, hM, hS, hF⟩
  · exact ⟨fun _ => ⟨hM, hS, fun g hset => hF ▸ hset⟩, fun g hset hclear => by simp [hF, hset] at hclear⟩
  · exact ⟨fun hnot => absurd hrun hnot, fun g hset hclear => by simp [hF, State.handler_flags_get hset] at hclear⟩
  · refine ⟨fun _ => ⟨hM, hS, fun k hset => ?_⟩, fun k hset hclear => ?_⟩
    · rw [hF, Tri.get_set] at hset
      split at hset
      · exact absurd hset Bool.false_ne_true
      · exact hset
    · by_cases hk : k = g
      · exact ⟨hturn, hk ▸ hg⟩
      · simp [hF, Tri.get_set_of_ne _ _ hk, hset] at hclear

/-! ### IRQ_PEND (R33, R190) -/

/-- After a tick IRQ_PEND is set exactly when it was set before, or T_COUNT ran out with EDGE = 1 (R108). -/
theorem State.count_irqPend (s : State) :
    s.count.irqPend = true ↔ s.irqPend = true ∨ (s.tCount = 1#23 ∧ s.edge = true) := by
  have hzero : s.tCount - 1#23 = 0#23 ↔ s.tCount = 1#23 := by constructor <;> intro h <;> bv_omega
  rw [State.count_eq, Bool.or_eq_true, Bool.and_eq_true, decide_eq_true_iff, hzero]

/-- Settles O52: no command and no TAKE writes IRQ_PEND, so an expiry sets it and the dispatcher's entry or a reset clears it. -/
theorem pendingInterruptWriters : Obligations.PendingInterruptWriters := by
  intro s t h
  rcases step_registers h with hr | ⟨hturn, hen, rfl⟩ | ⟨hturn, -, rfl⟩ | ⟨i, ws, u, -, hi, hu, hr⟩ | ⟨g, hturn, hg, hr⟩ |
    ⟨hturn, rfl⟩
  · have hirq : t.irqPend = s.irqPend := hr.irqPend
    simp_all
  · refine ⟨fun hclear hset => ?_, fun hset hclear => ?_⟩
    · rcases (State.count_irqPend s.takeTurn).1 hset with hpend | ⟨hcount, hedge⟩
      · exact absurd hpend (Bool.eq_false_iff.1 hclear)
      · exact ⟨hturn, hen, hedge, hcount⟩
    · exact absurd ((State.count_irqPend s.takeTurn).2 (.inl hset)) (Bool.eq_false_iff.1 hclear)
  · exact ⟨fun _ hset => absurd hset (by simp), fun _ _ => .inl hturn⟩
  · obtain ⟨⟨-, -, -, -, hframe, -⟩, -⟩ := commandFrame _ _ _ hu
    have hirq : t.irqPend = s.irqPend := hr.irqPend.trans hframe
    simp_all
  · have hirq : t.irqPend = s.irqPend := by simp [hr.irqPend]
    simp_all
  · exact ⟨fun _ hset => absurd hset Bool.false_ne_true, fun _ _ => .inr hturn⟩

/-! ### The timer registers and the latch (R22, R27, R175) -/

/-- Settles O53: a tick writes T_COUNT alone among them, a D.IRQ and a TAKE none, and a command what its frame allows. -/
theorem onlyDriverWritesTimerRegisters : Obligations.OnlyDriverWritesTimerRegisters := by
  intro s t h hreset
  rcases step_registers h with hr | ⟨hturn, hen, rfl⟩ | ⟨hturn, -, rfl⟩ | ⟨i, ws, u, -, hi, hu, hr⟩ | ⟨g, hturn, hg, hr⟩ |
    ⟨hturn, rfl⟩
  · exact ⟨fun _ => ⟨hr.tLoad, hr.tCtrl, hr.edge, fun _ => hr.tCount⟩,
      fun _ => hr.cfg⟩
  · simp [hturn]
  · simp
  · obtain ⟨-, -, -, hcfg, htimer, -⟩ := commandFrame _ _ _ hu
    refine ⟨fun hnone => ?_, fun hnone => hr.cfg.trans (hcfg ?_)⟩
    · obtain ⟨hload, hcount, hctrl, hedge⟩ := htimer (hnone i hi)
      exact ⟨hr.tLoad.trans hload, hr.tCtrl.trans hctrl, hr.edge.trans hedge,
        fun _ => hr.tCount.trans hcount⟩
    · rintro freq psel rfl
      exact hnone freq psel hi
  · simp [hr.tLoad, hr.tCount, hr.tCtrl, hr.edge, hr.cfg]
  · exact absurd hturn hreset

/-! ### The pools (R31, R152 to R157) -/

/-- Everything a command can do to the pools: nothing, or what VINIT, VDEC and VARM do. -/
theorem exec_vc {i : Instr} {s t : State} (h : exec i s = .next t) :
    t.vc = s.vc ∨ (i = .vinit ∧ t.vc = s.vc.map initPool) ∨ (∃ p, i = .vdec (selOf p) ∧ t.vc = (s.sweep p).vc) ∨
      ∃ p index ticks, i = .varm (selOf p) index ticks ∧ t.vc = (s.setSlot p index.toNat ⟨ticks, true⟩).vc := by
  by_cases hi : i.writesSlots = false
  · obtain ⟨-, -, -, -, -, hslots⟩ := commandFrame _ _ _ h
    exact .inl (hslots hi)
  · rcases exec_cases h with ⟨f, rfl⟩ | hrow
    · exact .inl rfl
    · cases i <;> simp only [Instr.writesSlots, not_true_eq_false] at hrow hi
      case vinit => exact .inr (.inl ⟨rfl, hrow ▸ rfl⟩)
      case vdec pool =>
        obtain ⟨p, hp, rfl⟩ := hrow
        exact .inr (.inr (.inl ⟨p, by rw [checkPool_eq_ok.1 hp], rfl⟩))
      case varm pool index ticks =>
        obtain ⟨p, hp, rfl⟩ := hrow
        exact .inr (.inr (.inr ⟨p, index, ticks, by rw [(checkSlot_eq_ok.1 hp).1], rfl⟩))

/-- TAKE(g) sweeps pool g when it consumes a tick with DEC_IN_SCHED, and leaves the pools alone otherwise (R138). -/
theorem State.take_vc (s : State) (g : Gran) :
    (s.take g).vc = if s.flags.get g = true ∧ s.par.decInSched = true then (s.sweep g).vc else s.vc := by
  unfold State.take
  by_cases hflag : s.flags.get g = true <;> simp only [hflag, if_true, if_false, false_and, true_and, reduceCtorEq]
  · rw [State.sweepIfEnabled_eq]; rfl
  · exact s.leave_vc g

/-- Everything a step can do to the pools: nothing, the initialising of every slot, a sweep, the arming of one slot. -/
theorem step_vc {s t : State} (h : step s = .next t) :
    t.vc = s.vc ∨
      ((s.nextTurn = .reset ∨ s.performs = some .vinit) ∧ t.vc = s.vc.map initPool) ∨
      (∃ p, s.sweepsPool p = true ∧ t.vc = (s.sweep p).vc) ∨
      ∃ p index ticks, s.performs = some (.varm (selOf p) index ticks) ∧
        t.vc = (s.setSlot p index.toNat ⟨ticks, true⟩).vc := by
  rcases step_registers h with hr | ⟨-, -, rfl⟩ | ⟨-, -, rfl⟩ | ⟨i, ws, u, -, hi, hu, hr⟩ | ⟨g, hturn, hg, hr⟩ | ⟨hturn, rfl⟩
  · exact .inl hr.vc
  · exact .inl (by simp)
  · exact .inl (by simp)
  · rw [hr.vc, hi]
    rcases exec_vc hu with hvc | ⟨rfl, hvc⟩ | ⟨p, rfl, hvc⟩ | ⟨p, index, ticks, rfl, hvc⟩
    · exact .inl hvc
    · exact .inr (.inl ⟨.inr rfl, hvc⟩)
    · exact .inr (.inr (.inl ⟨p, by simp [State.sweepsPool, hi], hvc⟩))
    · exact .inr (.inr (.inr ⟨p, index, ticks, rfl, hvc⟩))
  · rw [hr.vc, State.take_vc]
    split
    · next hsweep => exact .inr (.inr (.inl ⟨g, by simp_all [State.sweepsPool], rfl⟩))
    · exact .inl rfl
  · exact .inr (.inl ⟨.inl hturn, rfl⟩)

theorem step_par {s t : State} (h : step s = .next t) : t.par = s.par := by
  rcases step_registers h with hr | ⟨-, -, rfl⟩ | ⟨-, -, rfl⟩ | ⟨i, ws, u, -, hi, hu, hr⟩ | ⟨g, hturn, hg, hr⟩ | ⟨hturn, rfl⟩
  · exact hr.par
  · simp
  · simp
  · obtain ⟨⟨hpar, -⟩, -⟩ := commandFrame _ _ _ hu
    exact hr.par.trans hpar
  · simp [hr.par]
  · rfl

theorem State.caps_of_vc {s t : State} (h : t.vc = s.vc) : t.caps = s.caps := congrArg (Tri.map List.length) h

/-- A step writes slots and never adds or removes one. -/
theorem step_caps {s t : State} (h : step s = .next t) : t.caps = s.caps := by
  rcases step_vc h with hvc | ⟨-, hvc⟩ | ⟨p, -, hvc⟩ | ⟨p, index, ticks, -, hvc⟩
  · exact State.caps_of_vc hvc
  · simp [State.caps, hvc, map_length_initPools]
  · exact (State.caps_of_vc hvc).trans (s.caps_sweep p)
  · exact (State.caps_of_vc hvc).trans (s.caps_setSlot p _ _)

/-- Settles O54: each way in which a step writes a pool is a reset, a command that writes slots, or the sweep of a TAKE. -/
theorem onlyMainContextWritesPools : Obligations.OnlyMainContextWritesPools := by
  intro s t h
  refine ⟨fun hreset hcmd htake => ?_, step_caps h, step_par h⟩
  rcases step_vc h with hvc | ⟨hturn | hi, -⟩ | ⟨p, hsweep, -⟩ | ⟨p, index, ticks, hi, -⟩
  · exact hvc
  · exact absurd hturn hreset
  · exact absurd (hcmd _ hi) (by decide)
  · simp only [State.sweepsPool, Bool.or_eq_true, Bool.and_eq_true, beq_iff_eq] at hsweep
    rcases hsweep with hi | ⟨⟨⟨hturn, hphase⟩, -⟩, -⟩
    · exact absurd (hcmd _ hi) (by simp [Instr.writesSlots])
    · exact absurd hphase (htake hturn p)
  · exact absurd (hcmd _ hi) (by simp [Instr.writesSlots])

end Sys2Proof.Machine
end

section
/-!
PROOFS. The state family: the state after reset, and the bits of the register window.
-/

namespace Sys2Proof.Machine

/-! ### Reset (R36, R215) -/

theorem initPool_eq_replicate (l : List Slot) : initPool l = List.replicate l.length Slot.initial := List.map_const' ..

/-- Settles O55: the pools of the reset state are replicated initial slots, and every other row is the field's own value. -/
theorem resetStateOfTable : Obligations.ResetStateOfTable := by
  rintro par caps s rfl
  have hcap : ∀ p, (State.resetWith par caps).cap p = caps.get p := fun p => by simp [State.cap, State.resetWith]
  refine ⟨rfl, rfl, rfl, rfl, rfl, rfl, rfl, rfl, rfl, fun p i hi => ?_, hcap, rfl⟩
  rw [hcap] at hi
  simp [State.slotAt, State.resetWith, hi, Slot.initial]

/-- Settles O56: the reset turn is the restart, which differs from the state after reset in the history and the host's side
alone (log entry 8). -/
theorem resetTurnRestoresResetState : Obligations.ResetTurnRestoresResetState := by
  intro s hturn
  refine ⟨s.takeTurn.restart, by rw [step, hturn]; rfl, ?_, rfl, rfl⟩
  have hvc : s.vc.map initPool = s.caps.map fun n => List.replicate n Slot.initial := by
    simp [State.caps, Tri.map, initPool_eq_replicate]
  simp [State.dtu, State.restart, State.resetWith, hvc]

/-! ### The registers as they are read (R26 to R30, R52) -/

theorem getLsbD_ctrlBits (c : TCtrl) (k : Nat) :
    (ctrlBits c).getLsbD k =
      if k = 7 then c.en else if k = 6 then c.ar else if k = 3 then c.ps.getLsbD 1 else if k = 2 then c.ps.getLsbD 0 else false := by
  unfold ctrlBits
  simp only [BitVec.getLsbD_append, BitVec.getLsbD_ofBool]
  grind

theorem getLsbD_setWidth_count (v : Count) (k : Nat) :
    (v.setWidth 32).getLsbD k = (decide (k < 23) && v.getLsbD k) := by
  rw [BitVec.getLsbD_setWidth]
  by_cases hk : k < 23
  · simp [hk, show k < 32 by omega]
  · simp [hk, BitVec.getLsbD_of_ge v k (by omega)]

theorem getLsbD_setWidth_ofBool (b : Bool) (k : Nat) : ((BitVec.ofBool b).setWidth 32).getLsbD k = (decide (k = 0) && b) := by
  rw [BitVec.getLsbD_setWidth, BitVec.getLsbD_ofBool]
  by_cases hk : k = 0 <;> simp [hk]

/-- Settles O41: T_LOAD and T_COUNT are zero-extended, T_CTRL is joined from its fields, and T_INTTYPE is its bit 0. -/
theorem registersReadAsLaidOut : Obligations.RegistersReadAsLaidOut := by
  intro s k
  exact ⟨getLsbD_setWidth_count s.tLoad k, getLsbD_setWidth_count s.tCount k, getLsbD_ctrlBits s.tCtrl k,
    getLsbD_setWidth_ofBool s.edge k⟩

theorem getLsbD_fieldMask (boff wid k : Nat) :
    (fieldMask boff wid).getLsbD k = decide (k < 32 ∧ boff ≤ k ∧ k < boff + wid) := by
  rw [fieldMask, BitVec.getLsbD_ofNat, Nat.testBit_mul_two_pow, Nat.testBit_two_pow_sub_one, Bool.eq_iff_iff]
  simp only [Bool.and_eq_true, decide_eq_true_eq]
  omega

theorem getLsbD_fieldPut (old val : Word32) (boff wid : Nat) {k : Nat} (hk : k < 32) :
    (fieldPut old boff wid val).getLsbD k =
      if boff ≤ k ∧ k < boff + wid then val.getLsbD (k - boff) else old.getLsbD k := by
  have hval : (BitVec.ofNat 32 (val.toNat % 2 ^ wid * 2 ^ boff)).getLsbD k =
      (decide (boff ≤ k ∧ k < boff + wid) && val.getLsbD (k - boff)) := by
    rw [BitVec.getLsbD_ofNat, Nat.testBit_mul_two_pow, Nat.testBit_mod_two_pow, Bool.eq_iff_iff]
    simp only [Bool.and_eq_true, decide_eq_true_eq, BitVec.testBit_toNat]
    grind
  rw [fieldPut, BitVec.getLsbD_or, BitVec.getLsbD_and, BitVec.getLsbD_not, getLsbD_fieldMask, hval]
  by_cases hin : boff ≤ k ∧ k < boff + wid <;> simp [hin, hk]

/-- A written register reads as the written word in the bits that exist, and as 0 in the others (R30, R53). -/
theorem State.getLsbD_readReg_writeReg (s : State) {r : Reg} (hr : r ≠ .tCount) (v : Word32) (k : Nat) :
    ((s.writeReg r v).readReg r).getLsbD k = (implemented r k && v.getLsbD k) := by
  cases r with
  | tLoad =>
    refine (getLsbD_setWidth_count _ k).trans ?_
    by_cases hk : k < 23 <;> simp [State.writeReg, implemented, hk]
  | tCount => exact absurd rfl hr
  | tCtrl =>
    refine (getLsbD_ctrlBits _ k).trans ?_
    simp only [State.writeReg, ctrlOfBits, implemented]
    grind
  | tIntType =>
    refine (getLsbD_setWidth_ofBool _ k).trans ?_
    by_cases hk : k = 0 <;> simp [State.writeReg, implemented, hk]

/-- A reserved bit of a register reads as 0 (R30, R52). -/
theorem State.getLsbD_readReg (s : State) (r : Reg) (k : Nat) :
    (s.readReg r).getLsbD k = (implemented r k && (s.readReg r).getLsbD k) := by
  obtain ⟨hload, hcount, hctrl, hedge⟩ := registersReadAsLaidOut s k
  cases r with
  | tLoad => simp [hload, implemented]
  | tCount => simp [hcount, implemented]
  | tCtrl => rw [hctrl]; simp only [implemented]; grind
  | tIntType => rw [hedge]; simp only [implemented]; grind

/-- A write of a register leaves the other writable registers as they were (R53). -/
theorem State.readReg_writeReg_of_ne (s : State) {r q : Reg} (v : Word32) (hq : q ≠ r) (hcount : q ≠ .tCount) :
    (s.writeReg r v).readReg q = s.readReg q := by
  cases r <;> cases q <;> simp_all [State.readReg, State.writeReg]

theorem execWrf_of_fieldInside (s : State) {r : Reg} {boff wid : Byte} (val : Word32) (hr : r ≠ .tCount)
    (hf : FieldInside boff wid) :
    exec (.wrf (offsetOf r) boff val wid) s =
      .next ((s.writeReg r (fieldPut (s.readReg r) boff.toNat wid.toNat val)).respond ⟨0#4, 0#32⟩) := by
  have hcheck : checkField (offsetOf r) boff wid true = .ok r := checkField_eq_ok.2 ⟨rfl, fun h => hr h.2, hf⟩
  simp only [exec, execWrf, hcheck]
  rfl

/-- Settles O44: the register takes the merged word, whose bits are val's inside the field and the register's own outside. -/
theorem wrfWritesField : Obligations.WrfWritesField := by
  intro s r boff wid val hr hf
  refine ⟨_, execWrf_of_fieldInside s val hr hf, fun k hk => ?_, ?_, fun q hq hcount => ?_, ?_⟩
  · refine (s.getLsbD_readReg_writeReg hr _ k).trans ?_
    rw [getLsbD_fieldPut _ _ _ _ hk, apply_ite (implemented r k && ·), ← s.getLsbD_readReg r k]
  · cases r with
    | tLoad => rfl
    | tCount => exact absurd rfl hr
    | tCtrl => rfl
    | tIntType => rfl
  · exact s.readReg_writeReg_of_ne _ hq hcount
  · cases r <;> rfl

end Sys2Proof.Machine
end

section
/-!
PROOFS. The state family: what every step keeps.
-/

namespace Sys2Proof.Machine

/-! ### What every step keeps: the cascade counters (R21) -/

/-- A cascade counter that counts down from its period, and returns to it at zero, stays in 1 to the period. -/
theorem cascade_in_range {c period : Half} (h : 1 ≤ c.toNat ∧ c.toNat ≤ period.toNat) :
    1 ≤ (if c - 1#16 = 0#16 then period else c - 1#16).toNat ∧
      (if c - 1#16 = 0#16 then period else c - 1#16).toNat ≤ period.toNat := by
  split <;> bv_omega

theorem State.CascadesInRange.handler {s : State} (h : s.CascadesInRange) : s.handler.CascadesInRange := by
  obtain ⟨hM, hS⟩ := h
  rw [State.CascadesInRange, State.handler_cascM, State.handler_cascS, State.handler_par]
  exact ⟨cascade_in_range hM, cascade_in_range hS⟩

theorem State.CascadesInRange.congr {s t : State} (h : s.CascadesInRange) (hM : t.cascM = s.cascM) (hS : t.cascS = s.cascS)
    (hpar : t.par = s.par) : t.CascadesInRange := by
  rwa [State.CascadesInRange, hM, hS, hpar]

theorem step_keeps_cascadesInRange {s t : State} (hwf : s.par.wf = true) (hs : s.CascadesInRange) (h : step s = .next t) :
    t.CascadesInRange := by
  have hpar := step_par h
  by_cases hreset : s.nextTurn = .reset
  · obtain ⟨hm, hp⟩ := Params.one_le_periods_of_wf hwf
    have ht : t = s.takeTurn.restart := by rw [step, hreset] at h; cases h; rfl
    rw [ht]
    exact ⟨⟨hm, Nat.le_refl _⟩, ⟨hp, Nat.le_refl _⟩⟩
  · rcases step_cascades_flags h hreset with ⟨hM, hS, -⟩ | ⟨-, hM, hS, -⟩ | ⟨g, -, -, hM, hS, -⟩
    · exact hs.congr hM hS hpar
    · exact hs.handler.congr hM hS (hpar.trans s.handler_par.symm)
    · exact hs.congr hM hS hpar

/-! ### What every step keeps: the slots (R151) -/

/-- An unarmed slot holds 1 or 0 (R151). -/
def Slot.AtRest (x : Slot) : Prop := x.armed = false → x.value = 1#16 ∨ x.value = 0#16

theorem Slot.atRest_initial : Slot.initial.AtRest := fun _ => .inl rfl

theorem Slot.AtRest.sweepSlot {x : Slot} (h : x.AtRest) : (sweepSlot x).AtRest := by
  unfold Machine.sweepSlot
  split
  · split
    · exact fun _ => .inr rfl
    · exact nofun
  · exact h

/-- Replacing a pool by slots at rest leaves every slot at rest. -/
theorem State.UnarmedSlotsAtRest.set {s t : State} {p : Gran} {l : List Slot} (hs : s.UnarmedSlotsAtRest)
    (hl : ∀ x ∈ l, x.AtRest) (hvc : t.vc = s.vc.set p l) : t.UnarmedSlotsAtRest := by
  intro q x hx
  rw [hvc, Tri.get_set] at hx
  split at hx
  · exact hl x hx
  · exact hs q x hx

theorem step_keeps_unarmedSlotsAtRest {s t : State} (hs : s.UnarmedSlotsAtRest) (h : step s = .next t) :
    t.UnarmedSlotsAtRest := by
  rcases step_vc h with hvc | ⟨-, hvc⟩ | ⟨p, -, hvc⟩ | ⟨p, index, ticks, -, hvc⟩
  · rwa [State.UnarmedSlotsAtRest, hvc]
  · intro p x hx
    rw [hvc, Tri.get_map, initPool_eq_replicate] at hx
    rw [List.eq_of_mem_replicate hx]
    exact Slot.atRest_initial
  · refine hs.set (fun x hx => ?_) hvc
    obtain ⟨y, hy, rfl⟩ := List.mem_map.1 hx
    exact Slot.AtRest.sweepSlot (hs p y hy)
  · refine hs.set (fun x hx => ?_) hvc
    rcases List.mem_or_eq_of_mem_set hx with hmem | rfl
    · exact hs p x hmem
    · exact nofun

/-! ### What every step keeps: the sequencer (R24, R137, R139) -/

theorem State.sequencerInBody_of_pos_eq_zero {s : State} (h : s.seq.pos = 0) : s.SequencerInBody := by
  unfold State.SequencerInBody
  split
  · exact h
  · exact h
  · exact h ▸ Nat.zero_le _

theorem State.SequencerInBody.congr {s t : State} (h : s.SequencerInBody) (hseq : t.seq = s.seq) (hpar : t.par = s.par) :
    t.SequencerInBody := by
  rwa [State.SequencerInBody, hseq, hpar]

@[simp] theorem State.leave_pos (s : State) (g : Gran) : (s.leave g).seq.pos = 0 := by rw [State.leave_eq]

@[simp] theorem State.take_pos (s : State) (g : Gran) : (s.take g).seq.pos = 0 := by
  unfold State.take
  split
  · rfl
  · exact s.leave_pos g

/-- A command leaves RUNSEQ as it is, but for a RUN that an idle sequencer accepts (R24, R136). -/
theorem exec_seq {i : Instr} {s t : State} (h : exec i s = .next t) :
    t.seq = s.seq ∨ (s.seq.phase = .idle ∧ t.seq = ⟨.take .fast, 0⟩) := by
  by_cases hi : i = .run
  · subst hi
    rcases exec_cases h with ⟨f, rfl⟩ | ⟨hidle, rfl⟩
    · exact .inl rfl
    · exact .inr ⟨hidle, rfl⟩
  · obtain ⟨-, hseq, -⟩ := commandFrame _ _ _ h
    exact .inl (hseq hi)

/-- Everything a step can do to RUNSEQ: nothing, a change of phase, which begins at position 0, one position on in a body. -/
theorem step_seq {s t : State} (h : step s = .next t) :
    t.seq = s.seq ∨ t.seq.pos = 0 ∨
      ∃ g, s.seq.phase = .cb g ∧ s.seq.pos < (s.par.bodies.get g).length ∧ t.seq = ⟨.cb g, s.seq.pos + 1⟩ := by
  rcases step_cases h with ⟨-, ht⟩ | ⟨-, ht⟩ | ⟨hturn, ht⟩ | ⟨-, rfl⟩
  · rcases timerTurn_eq_next.1 ht with ⟨-, rfl⟩ | ⟨-, -, -, -, rfl⟩
    · exact .inl rfl
    · exact .inl (by simp)
  · rcases dispatcherTurn_eq_next.1 ht with ⟨-, rfl⟩ | ⟨-, rfl⟩
    · exact .inl (by simp)
    · exact .inl rfl
  · rcases main_step_cases hturn ht with rfl | ⟨i, ws, u, -, hu, hbump⟩ | ⟨f, ws, rfl⟩ | ⟨f, g, hg, hlt, rfl⟩ |
      ⟨g, -, rfl⟩ | ⟨g, -, -, rfl⟩
    · exact .inl rfl
    · rcases hbump with rfl | ⟨⟨g, hg, hlt⟩, rfl⟩
      · rcases exec_seq hu with hseq | ⟨-, hseq⟩
        · exact .inl hseq
        · exact .inr (.inl (by rw [hseq]))
      · rcases exec_seq hu with hseq | ⟨hidle, -⟩
        · exact .inr (.inr ⟨g, hg, hlt, by simp [hseq, hg]⟩)
        · exact absurd (hg.symm.trans hidle) nofun
    · exact .inl rfl
    · exact .inr (.inr ⟨g, hg, hlt, by simp [hg]⟩)
    · exact .inr (.inl (by simp))
    · exact .inr (.inl (by simp))
  · exact .inr (.inl rfl)

theorem step_keeps_sequencerInBody {s t : State} (hs : s.SequencerInBody) (h : step s = .next t) : t.SequencerInBody := by
  rcases step_seq h with hseq | hzero | ⟨g, hg, hlt, hseq⟩
  · exact hs.congr hseq (step_par h)
  · exact State.sequencerInBody_of_pos_eq_zero hzero
  · rw [State.SequencerInBody, hseq, step_par h]
    exact hlt

/-! ### What every step keeps: the statuses given (R76) -/

theorem State.StatusesKnown.respond {s : State} {r : Response} (h : s.StatusesKnown) (hr : r.status.toNat ≤ 5) :
    (s.respond r).StatusesKnown := by
  intro q hq
  rcases List.mem_cons.1 hq with heq | hmem
  · cases heq
    exact hr
  · exact h q hmem

theorem State.StatusesKnown.pulse {s : State} {g : Gran} (h : s.StatusesKnown) : (s.pulse g).StatusesKnown := by
  intro q hq
  rcases List.mem_cons.1 hq with heq | hmem
  · cases heq
  · exact h q hmem

theorem State.StatusesKnown.fault {s : State} {f : CmdFault} (h : s.StatusesKnown) :
    (s.respond (faultResponse f)).StatusesKnown := h.respond (faultStatus_le f)

theorem State.StatusesKnown.congr {s t : State} (h : s.StatusesKnown) (hout : t.out = s.out) : t.StatusesKnown := by
  rwa [State.StatusesKnown, hout]

theorem State.StatusesKnown.leave {s : State} {g : Gran} (h : s.StatusesKnown) : (s.leave g).StatusesKnown := by
  cases g with
  | fast => exact h
  | med => exact h
  | slow => exact State.StatusesKnown.respond (s := s.setSeq .idle 0) h (by decide)

theorem State.StatusesKnown.take {s : State} {g : Gran} (h : s.StatusesKnown) : (s.take g).StatusesKnown := by
  unfold State.take
  split
  · exact State.StatusesKnown.pulse (s := (s.clearFlag g).sweepIfEnabled g) (h.congr (by rw [State.sweepIfEnabled_eq]; rfl))
  · exact h.leave

theorem State.StatusesKnown.succeed {s u : State} {rdata : Word32} (h : s.StatusesKnown) (hout : u.out = s.out) :
    (u.respond ⟨0#4, rdata⟩).StatusesKnown := (h.congr hout).respond (Nat.zero_le 5)

theorem State.StatusesKnown.exec {i : Instr} {s t : State} (hs : s.StatusesKnown) (h : exec i s = .next t) :
    t.StatusesKnown := by
  rcases exec_cases h with ⟨f, rfl⟩ | hrow
  · exact hs.fault
  · cases i <;> simp only at hrow
    case run => obtain ⟨-, rfl⟩ := hrow; exact hs
    case ten | tdis | vinit => subst hrow; exact hs.succeed rfl
    case tdisp => subst hrow; exact hs.succeed s.handler_out
    case wrf => obtain ⟨r, -, rfl⟩ := hrow; exact hs.succeed (s.writeReg_out r _)
    all_goals obtain ⟨_, -, rfl⟩ := hrow; exact hs.succeed rfl

theorem step_keeps_statusesKnown {s t : State} (hs : s.StatusesKnown) (h : step s = .next t) : t.StatusesKnown := by
  have htaken : s.takeTurn.StatusesKnown := hs
  rcases step_cases h with ⟨-, ht⟩ | ⟨-, ht⟩ | ⟨hturn, ht⟩ | ⟨-, rfl⟩
  · rcases timerTurn_eq_next.1 ht with ⟨-, rfl⟩ | ⟨-, -, -, -, rfl⟩
    · exact hs
    · exact hs.congr (by simp)
  · rcases dispatcherTurn_eq_next.1 ht with ⟨-, rfl⟩ | ⟨-, rfl⟩
    · exact hs.congr (by simp)
    · exact hs
  · rcases main_step_cases hturn ht with rfl | ⟨i, ws, u, -, hu, hbump⟩ | ⟨f, ws, rfl⟩ | ⟨f, g, -, -, rfl⟩ |
      ⟨g, -, rfl⟩ | ⟨g, -, -, rfl⟩
    · exact hs
    · have hknown : u.StatusesKnown := State.StatusesKnown.exec (s := { s.takeTurn with cmds := ws }) hs hu
      rcases hbump with rfl | ⟨-, rfl⟩
      · exact hknown
      · exact hknown
    · exact State.StatusesKnown.fault (s := { s.takeTurn with cmds := ws }) hs
    · exact htaken.fault
    · exact htaken.take
    · exact htaken.leave
  · exact hs

/-- Settles O58: the six conditions are kept one by one; parameters and capacities do not change at all. -/
theorem stepKeepsInvariant : Obligations.StepKeepsInvariant := by
  intro s t hs h
  exact {
    params := step_par h ▸ hs.params
    caps := step_caps h ▸ hs.caps
    cascades := step_keeps_cascadesInRange hs.params hs.cascades h
    sequencer := step_keeps_sequencerInBody hs.sequencer h
    slots := step_keeps_unarmedSlotsAtRest hs.slots h
    statuses := step_keeps_statusesKnown hs.statuses h }

/-! ### The latch describes the timer (R22) -/

theorem State.LatchDescribesTimer.congr {s t : State} (h : s.LatchDescribesTimer) (hcfg : t.cfg = s.cfg)
    (hload : t.tLoad = s.tLoad) (hps : t.tCtrl.ps = s.tCtrl.ps) (hpar : t.par = s.par) : t.LatchDescribesTimer := by
  rwa [State.LatchDescribesTimer, hcfg, hload, hps, hpar]

/-- TINIT programs the timer with what it latches: the count that its checks computed, which fits the 23 bits of T_LOAD (R101, R102). -/
theorem latchDescribesTimer_of_checkReload {s : State} {freq : Word32} {psel : Sel} {r : Nat}
    (h : checkReload s freq psel = .ok r) :
    ((s.program psel (BitVec.ofNat 23 r)).latch freq psel (BitVec.ofNat 23 r)).LatchDescribesTimer := by
  obtain ⟨hsel, -, hr, -, hmax⟩ := checkReload_eq_ok.1 h
  have hfits : (BitVec.ofNat 23 r).toNat = r := by
    rw [BitVec.toNat_ofNat]
    exact Nat.mod_eq_of_lt (by unfold Config.maxReload at hmax; omega)
  exact fun _ => ⟨rfl, rfl, 16 ^ psel.toNat, divisor_eq_some.2 ⟨hsel, rfl⟩, hfits.trans hr⟩

/-- A command that is no WRF to T_LOAD or T_CTRL keeps the latch a description of the timer. -/
theorem State.LatchDescribesTimer.exec {i : Instr} {s t : State} (hs : s.LatchDescribesTimer)
    (hload : ∀ boff val wid, i ≠ .wrf 0x00#8 boff val wid) (hctrl : ∀ boff val wid, i ≠ .wrf 0x08#8 boff val wid)
    (h : exec i s = .next t) : t.LatchDescribesTimer := by
  rcases exec_cases h with ⟨f, rfl⟩ | hrow
  · exact hs
  · cases i <;> simp only at hrow
    case tinit freq psel =>
      obtain ⟨r, hr, rfl⟩ := hrow
      exact latchDescribesTimer_of_checkReload hr
    case ten | tdis => subst hrow; exact hs
    case wrf reg boff val wid =>
      obtain ⟨r, hr, rfl⟩ := hrow
      obtain ⟨rfl, hcount, -⟩ := checkField_eq_ok.1 hr
      cases r with
      | tLoad => exact absurd rfl (hload boff val wid)
      | tCount => exact absurd ⟨rfl, rfl⟩ hcount
      | tCtrl => exact absurd rfl (hctrl boff val wid)
      | tIntType => exact hs
    all_goals
      obtain ⟨⟨hpar, -⟩, -, -, hcfg, htimer, -⟩ := commandFrame _ _ _ h
      obtain ⟨hL, -, hC, -⟩ := htimer rfl
      exact hs.congr (hcfg nofun) hL (congrArg TCtrl.ps hC) hpar

/-- Settles O59: a tick, a D.IRQ and a TAKE write neither the latch nor T_LOAD nor T_CTRL, a TINIT writes all three together, and a reset makes the
latch invalid. -/
theorem stepKeepsLatchDescribingTimer : Obligations.StepKeepsLatchDescribingTimer := by
  intro s t hs hload hctrl h
  rcases step_registers h with hr | ⟨-, -, rfl⟩ | ⟨-, -, rfl⟩ | ⟨i, ws, u, -, hi, hu, hr⟩ | ⟨g, -, -, hr⟩ | ⟨-, rfl⟩
  · exact hs.congr hr.cfg hr.tLoad (congrArg TCtrl.ps hr.tCtrl) hr.par
  · exact hs.congr (by simp) (by simp) (by simp) (by simp)
  · exact hs.congr (by simp) (by simp) (by simp) (by simp)
  · have hu : u.LatchDescribesTimer := by
      refine State.LatchDescribesTimer.exec (s := { s.takeTurn with cmds := ws }) hs ?_ ?_ hu
      · exact fun boff val wid heq => hload boff val wid (heq ▸ hi)
      · exact fun boff val wid heq => hctrl boff val wid (heq ▸ hi)
    exact hu.congr hr.cfg hr.tLoad (congrArg TCtrl.ps hr.tCtrl) hr.par
  · exact hs.congr (by simp [hr.cfg]) (by simp [hr.tLoad]) (by simp [hr.tCtrl]) (by simp [hr.par])
  · exact nofun

end Sys2Proof.Machine
end

section
/-!
PROOFS. The encoding family: decoding and encoding are inverse to each other, the decoder agrees with the mask and match columns, and words that
decode to no command are refused by name.
-/

namespace Sys2Proof

/-! ### Decoding an encoding (R70 to R75) -/

/-- The encoding carries its row's OPC (Laws/PerInstr has the statement for each instruction). -/
@[simp] theorem opcField_encode (i : Instr) : opcField (encode i) = i.opcode.code := by
  cases i <;> exact opcField_joinWord ..

/-- The encoder leaves every bit zero that the format does not use. -/
theorem unusedZero_encode (i : Instr) : i.opcode.format.unusedZero (encode i) = true := by
  cases i <;> simp [Instr.opcode, Opcode.format, Format.unusedZero, encode]

/-- Each operand is read from the field it was written to. -/
theorem operands_encode (i : Instr) : i.opcode.operands (encode i) = i := by
  cases i <;> simp [Instr.opcode, Opcode.operands, encode]

/-- Settles O1: the encoding has the row's opcode, zeros in the unused fields, and the operands in theirs. -/
theorem decodeOfEncodeIsIdentity : Obligations.DecodeOfEncodeIsIdentity := by
  intro i
  refine decode_eq_ok.2 ⟨i.opcode, ?_, unusedZero_encode i, operands_encode i⟩
  rw [opcField_encode, Opcode.ofCode_code]

/-! ### Encoding a decoding (R71, R77) -/

/-- With the unused bits zero, the operands of a word and the opcode hold all of it. -/
theorem encode_operands {op : Opcode} {w : Word64} (h : op.format.unusedZero w = true) :
    encode (op.operands w) = joinWord op.code (aField w) (bField w) (cField w) (dField w) := by
  cases op <;>
    simp only [Opcode.format, Format.unusedZero, Bool.and_eq_true, beq_iff_eq] at h <;>
    simp only [Opcode.operands, encode, Opcode.code]
  case tinit => obtain ⟨⟨ha, hb⟩, hc⟩ := h; rw [selByte_selField ha, hb, hc]
  case varm => obtain ⟨⟨ha, hb⟩, hc⟩ := h; rw [selByte_selField ha, joinHalves_fields, hb, hc]
  case vdec => obtain ⟨⟨⟨ha, hb⟩, hc⟩, hd⟩ := h; rw [selByte_selField ha, hb, hc, hd]
  case vqry => obtain ⟨⟨⟨ha, hb⟩, hc⟩, hd⟩ := h; rw [selByte_selField ha, ← hd, joinHalves_fields, hb, hc]
  case rdf => rw [h]
  case ten | tdis | tdisp | run | vinit => obtain ⟨⟨⟨ha, hb⟩, hc⟩, hd⟩ := h; rw [ha, hb, hc, hd]

/-- Settles O2: the opcode and the operands of a word that decodes are all of its five fields. -/
theorem encodeOfDecodeIsIdentity : Obligations.EncodeOfDecodeIsIdentity := by
  intro w i hw
  obtain ⟨op, hop, hz, rfl⟩ := decode_eq_ok.1 hw
  rw [encode_operands hz, Opcode.code_of_ofCode hop, joinWord_fields]

/-- Settles O5: each legal word is the encoding of its command, and the opcodes 0x00 and 0xFF are reserved. -/
theorem exampleWordsDecode : Obligations.ExampleWordsDecode :=
  ⟨decodeOfEncodeIsIdentity (.tinit 100000#32 1#2), decodeOfEncodeIsIdentity .run,
    decodeOfEncodeIsIdentity (.varm 2#2 9#16 300#16), decodeOfEncodeIsIdentity (.rdf 0x08#8 2#8 2#8),
    decodeOfEncodeIsIdentity (.wrf 0x00#8 0#8 800#32 23#8), rfl, rfl⟩

/-! ### The mask and match columns (R77) -/

theorem joinWord_inj {o a b c o' a' b' c' : Byte} {d d' : Word32} :
    joinWord o a b c d = joinWord o' a' b' c' d' ↔ o = o' ∧ a = a' ∧ b = b' ∧ c = c' ∧ d = d' := by
  constructor
  · intro h
    exact ⟨by simpa using congrArg opcField h, by simpa using congrArg aField h, by simpa using congrArg bField h,
      by simpa using congrArg cField h, by simpa using congrArg dField h⟩
  · rintro ⟨rfl, rfl, rfl, rfl, rfl⟩
    rfl

theorem joinWord_and_joinWord (o a b c o' a' b' c' : Byte) (d d' : Word32) :
    joinWord o a b c d &&& joinWord o' a' b' c' d' = joinWord (o &&& o') (a &&& a') (b &&& b') (c &&& c') (d &&& d') := by
  unfold joinWord
  ext i hi
  simp only [BitVec.getElem_and, BitVec.getElem_append]
  grind

/-- The bits that a row of the given format fixes: the opcode, and every bit the format does not use (R71). -/
def Format.fixedBits : Format → Word64
  | .n => joinWord (.allOnes 8) (.allOnes 8) (.allOnes 8) (.allOnes 8) (.allOnes 32)
  | .p => joinWord (.allOnes 8) 0xFC#8 (.allOnes 8) (.allOnes 8) (.allOnes 32)
  | .pf => joinWord (.allOnes 8) 0xFC#8 (.allOnes 8) (.allOnes 8) 0#32
  | .pi => joinWord (.allOnes 8) 0xFC#8 (.allOnes 8) (.allOnes 8) 0x0000FFFF#32
  | .pit => joinWord (.allOnes 8) 0xFC#8 (.allOnes 8) (.allOnes 8) 0#32
  | .r => joinWord (.allOnes 8) 0#8 0#8 0#8 (.allOnes 32)
  | .w => joinWord (.allOnes 8) 0#8 0#8 0#8 0#32

theorem Opcode.mask_eq (op : Opcode) : op.mask = op.format.fixedBits := by cases op <;> rfl

theorem Opcode.pattern_eq (op : Opcode) : op.pattern = joinWord op.code 0#8 0#8 0#8 0#32 := by cases op <;> rfl

/-- The mask 0xFC of the field A selects A[7:2]. -/
theorem aField_and_mask_eq_zero (w : Word64) : aField w &&& 0xFC#8 = 0#8 ↔ aHigh w = 0#6 := by
  have key : ∀ a : Byte, a &&& 0xFC#8 = 0#8 ↔ a.extractLsb' 2 6 = 0#6 := by decide
  exact key (aField w)

/-- The mask 0x0000FFFF of the field D selects D[15:0]. -/
theorem dField_and_mask_eq_zero (w : Word64) : dField w &&& 0x0000FFFF#32 = 0#32 ↔ ticksField w = 0#16 := by
  rw [← BitVec.toNat_inj, ← BitVec.toNat_inj, BitVec.toNat_and, ticksField, BitVec.extractLsb'_toNat, Nat.shiftRight_zero]
  exact Eq.congr_left (Nat.and_two_pow_sub_one_eq_mod _ 16)

/-- A word has the opcode in the bits its format fixes, and zeros in the others, exactly when its unused bits are zero. -/
theorem and_fixedBits_eq_iff (f : Format) (w : Word64) (code : Byte) :
    w &&& f.fixedBits = joinWord code 0#8 0#8 0#8 0#32 ↔ opcField w = code ∧ f.unusedZero w = true := by
  conv_lhs => rw [← joinWord_fields w]
  cases f <;>
    simp only [Format.fixedBits, Format.unusedZero, joinWord_and_joinWord, joinWord_inj, BitVec.and_allOnes, BitVec.and_zero,
      aField_and_mask_eq_zero, dField_and_mask_eq_zero, Bool.and_eq_true, beq_iff_eq, and_assoc, and_true,
      true_and]

theorem Opcode.selects_iff (op : Opcode) (w : Word64) :
    op.selects w = true ↔ Opcode.ofCode (opcField w) = some op ∧ op.format.unusedZero w = true := by
  have hcode : Opcode.ofCode (opcField w) = some op ↔ opcField w = op.code :=
    ⟨fun h => (Opcode.code_of_ofCode h).symm, fun h => h ▸ Opcode.ofCode_code op⟩
  rw [Opcode.selects, beq_iff_eq, op.mask_eq, op.pattern_eq, and_fixedBits_eq_iff, hcode]

@[simp] theorem Opcode.opcode_operands (op : Opcode) (w : Word64) : (op.operands w).opcode = op := by cases op <;> rfl

/-- Settles O3: both columns and formats ask for the row's opcode and for zeros in the unused bits. -/
theorem decodeMatchesOpcodeTable : Obligations.DecodeMatchesOpcodeTable := by
  intro w op
  rw [op.selects_iff]
  constructor
  · rintro ⟨hop, hz⟩
    exact ⟨op.operands w, decode_eq_ok.2 ⟨op, hop, hz, rfl⟩, op.opcode_operands w⟩
  · rintro ⟨i, hi, rfl⟩
    obtain ⟨op, hop, hz, rfl⟩ := decode_eq_ok.1 hi
    rw [op.opcode_operands]
    exact ⟨hop, hz⟩

/-! ### Words that decode to no command (R78) -/

theorem Opcode.ofCode_eq_none {b : Byte} : Opcode.ofCode b = none ↔ b.toNat = 0 ∨ 12 ≤ b.toNat := by
  revert b; decide

theorem toNat_opcField (w : Word64) : (opcField w).toNat = w.toNat / 2 ^ 56 := by
  have := w.isLt
  rw [opcField, BitVec.extractLsb'_toNat, Nat.shiftRight_eq_div_pow]
  omega

theorem decode_eq_error {w : Word64} {f : CmdFault} (h : decode w = .error f) : f = .reservedOpcode ∨ f = .reservedBits := by
  unfold decode at h
  split at h
  · cases h; exact .inl rfl
  · split at h <;> cases h
    exact .inr rfl

theorem decode_of_reserved_opcode {w : Word64} (h : Opcode.ofCode (opcField w) = none) :
    decode w = .error .reservedOpcode := by
  simp only [decode, h]

theorem decode_of_reserved_bits {w : Word64} {op : Opcode} (hop : Opcode.ofCode (opcField w) = some op)
    (hz : op.format.unusedZero w = false) : decode w = .error .reservedBits := by
  simp [decode, hop, hz]

namespace Machine

/-- An illegal word answers its fault and changes nothing else. -/
theorem perform_of_decode_error {w : Word64} {f : CmdFault} (hw : decode w = .error f) (s : State) :
    perform w s = .next (s.respond (faultResponse f)) := by
  simp only [perform, hw, State.raise]

/-- Settles O4: the decoder looks at the opcode first, and under a legal opcode only the unused bits can keep a word from its row. -/
theorem illegalWordsFaultByName : Obligations.IllegalWordsFaultByName := by
  intro w s
  rw [← toNat_opcField]
  constructor
  · intro hcode
    exact perform_of_decode_error (decode_of_reserved_opcode (Opcode.ofCode_eq_none.2 hcode)) s
  · intro hcode hselects
    cases hop : Opcode.ofCode (opcField w) with
    | none =>
      have := Opcode.ofCode_eq_none.1 hop
      omega
    | some op =>
      have hz : op.format.unusedZero w = false := by
        rw [Bool.eq_false_iff]
        exact fun hz => Bool.eq_false_iff.1 (hselects op) ((op.selects_iff w).2 ⟨hop, hz⟩)
      exact perform_of_decode_error (decode_of_reserved_bits hop hz) s

/-- In a callback, the main context's turn performs the body's word at the position and moves the position on (R139). -/
theorem mainTurn_of_body_word {s : State} {g : Gran} {w : Word64} (hphase : s.seq.phase = .cb g)
    (hw : (s.par.bodies.get g)[s.seq.pos]? = some w) : mainTurn s = bumpAfter (perform w s) := by
  simp only [mainTurn, hphase, cbStep, hw]

/-- Settles O8: an illegal word is refused at the host's port and in a body alike; in a body the position then moves on. -/
theorem stepAnswersIllegalWord : Obligations.StepAnswersIllegalWord := by
  intro s w f hturn hw
  constructor
  · intro ws hidle hcmds
    calc step s = mainTurn s.takeTurn := step_of_nextTurn_main hturn
      _ = perform w { s.takeTurn with cmds := ws } := mainTurn_of_idle hidle hcmds
      _ = _ := perform_of_decode_error hw _
  · intro g hphase hbody
    calc step s = mainTurn s.takeTurn := step_of_nextTurn_main hturn
      _ = bumpAfter (perform w s.takeTurn) := mainTurn_of_body_word hphase hbody
      _ = .next (s.takeTurn.respond (faultResponse f)).bumpPos := by rw [perform_of_decode_error hw]; rfl
      _ = _ := by rw [← hphase]; rfl

end Machine

end Sys2Proof
end

section
/-!
PROOFS. The encoding family: TEN and TDIS are field writes, and what a command answers.
-/

namespace Sys2Proof

/-! ### The faults of each operation (R187) -/

/-- The faults that R187 lets an operation raise once its word has decoded. -/
def Opcode.faults : Opcode → List CmdFault
  | .tinit => [.freqZero, .reloadZero, .reloadTooBig, .prescalerReserved]
  | .ten => []
  | .tdis => []
  | .tdisp => []
  | .run => [.nestedRun]
  | .vinit => []
  | .varm => [.poolReserved, .indexOutOfRange]
  | .vdec => [.poolReserved]
  | .vqry => [.poolReserved, .indexOutOfRange]
  | .rdf => [.misaligned, .unmapped, .badWidth, .fieldOutside]
  | .wrf => [.misaligned, .unmapped, .readOnly, .badWidth, .fieldOutside]

namespace Machine

/-! ### TEN and TDIS as field writes (R82, R104, R105) -/

/-- Bit 7 of T_CTRL is EN: a write of that one bit sets EN and keeps AR and PS (R28, R174). -/
theorem ctrlOfBits_fieldPut_en (c : TCtrl) (val : Word32) :
    ctrlOfBits (fieldPut (ctrlBits c) 7 1 val) = { c with en := val.getLsbD 0 } := by
  have hbit : ∀ k < 32, (fieldPut (ctrlBits c) 7 1 val).getLsbD k =
      if 7 ≤ k ∧ k < 8 then val.getLsbD (k - 7) else (ctrlBits c).getLsbD k := fun k hk => getLsbD_fieldPut _ _ 7 1 hk
  have hps : (fieldPut (ctrlBits c) 7 1 val).extractLsb' 2 2 = c.ps := by
    ext k hk
    rw [BitVec.getElem_extractLsb', hbit _ (by omega), getLsbD_ctrlBits]
    have : k = 0 ∨ k = 1 := by omega
    rcases this with rfl | rfl <;> rfl
  rw [ctrlOfBits, hps, hbit 7 (by omega), hbit 6 (by omega), if_pos (by omega), if_neg (by omega), getLsbD_ctrlBits]
  rfl

/-- A field write of bit 7 of T_CTRL is a write of the run bit. -/
theorem exec_wrf_run_bit (s : State) (val : Word32) :
    exec (.wrf 0x08#8 7#8 val 1#8) s = (s.setRun (val.getLsbD 0)).succeed 0#32 := by
  have hwrite : s.writeReg .tCtrl (fieldPut (s.readReg .tCtrl) 7 1 val) = s.setRun (val.getLsbD 0) :=
    congrArg (fun c => { s with tCtrl := c }) (ctrlOfBits_fieldPut_en s.tCtrl val)
  have hf : FieldInside 7#8 1#8 := ⟨by decide, by decide⟩
  exact (execWrf_of_fieldInside s (r := .tCtrl) val nofun hf).trans (congrArg (State.succeed · 0#32) hwrite)

/-- Settles O15: TSTART and TSTOP write bit 7 of T_CTRL, which is the run bit. -/
theorem runBitCommandsAreFieldWrites : Obligations.RunBitCommandsAreFieldWrites := fun s =>
  ⟨(exec_wrf_run_bit s 1#32).symm, (exec_wrf_run_bit s 0#32).symm⟩

/-! ### What a command answers (R76, R185, R187) -/

theorem faultCodes_some (op : Opcode) :
    faultCodes (some op) = op.faults.map fun f => (faultResponse f).bits.toNat := by
  cases op <;> rfl

/-- A fault's subcode stands alone in RDATA (R76). -/
theorem faultResponse_rdata_lt (f : CmdFault) : (faultResponse f).rdata.toNat < 256 := by cases f <;> decide

theorem checkReload_error {s : State} {freq : Word32} {psel : Sel} {f : CmdFault} (h : checkReload s freq psel = .error f) :
    f ∈ Opcode.tinit.faults := by
  unfold checkReload at h
  split at h
  · cases h; decide
  · split_ifs at h <;> cases h <;> decide

theorem checkPool_error {sel : Sel} {f : CmdFault} (h : checkPool sel = .error f) : f ∈ Opcode.vdec.faults :=
  List.mem_singleton.2 (checkPool_eq_error.1 h).2

theorem checkSlot_error {s : State} {sel : Sel} {index : Half} {f : CmdFault} (h : checkSlot s sel index = .error f) :
    f ∈ Opcode.varm.faults := by
  unfold checkSlot at h
  split at h
  · next hpool =>
    cases h
    exact List.mem_append_left _ (checkPool_error hpool)
  · split_ifs at h
    cases h; decide

theorem regAt_error {off : Byte} {f : CmdFault} (h : regAt off = .error f) : f = .misaligned ∨ f = .unmapped := by
  unfold regAt at h
  split_ifs at h <;> cases h <;> simp

theorem checkWidth_error {boff wid : Byte} {r : Reg} {f : CmdFault} (h : checkWidth boff wid r = .error f) :
    f = .badWidth ∨ f = .fieldOutside := by
  unfold checkWidth at h
  split_ifs at h <;> cases h <;> simp

theorem checkField_error {off boff wid : Byte} {write : Bool} {f : CmdFault} (h : checkField off boff wid write = .error f) :
    f ∈ (if write then Opcode.wrf else Opcode.rdf).faults := by
  unfold checkField at h
  split at h
  · next hreg =>
    cases h
    rcases regAt_error hreg with rfl | rfl <;> cases write <;> decide
  · split_ifs at h with hro
    · cases h
      rw [if_pos hro.1]; decide
    · rcases checkWidth_error h with rfl | rfl <;> cases write <;> decide

/-- The command that led from s to t answered once: one of the given faults, with nothing else changed, or a result with STATUS 0. -/
def State.AnsweredBy (s : State) (faults : List CmdFault) (t : State) : Prop :=
  (∃ f ∈ faults, t = s.respond (faultResponse f)) ∨ ∃ d, t.out = .response ⟨0#4, d⟩ :: s.out

theorem State.answeredBy_fault (s : State) {f : CmdFault} {faults : List CmdFault} (hf : f ∈ faults) :
    s.AnsweredBy faults (s.respond (faultResponse f)) := .inl ⟨f, hf, rfl⟩

theorem State.answeredBy_result (s : State) {u : State} {d : Word32} {faults : List CmdFault} (hout : u.out = s.out) :
    s.AnsweredBy faults (u.respond ⟨0#4, d⟩) := .inr ⟨d, by rw [State.respond_out, hout]⟩

/-- A command answers once, with a fault of its operation or with STATUS 0, but for a RUN that is accepted. -/
theorem exec_answers {i : Instr} {s t : State} (h : exec i s = .next t) :
    s.AnsweredBy i.opcode.faults t ∨ (i = .run ∧ s.seq.phase = .idle ∧ t = s.setSeq (.take .fast) 0) := by
  cases i with
  | tinit freq psel =>
    simp only [exec, execTinit] at h
    split at h <;> cases h
    · next hcheck => exact .inl (s.answeredBy_fault (checkReload_error hcheck))
    · exact .inl (s.answeredBy_result rfl)
  | ten | tdis | vinit => cases h; exact .inl (s.answeredBy_result rfl)
  | tdisp => cases h; exact .inl (s.answeredBy_result s.handler_out)
  | run =>
    simp only [exec, execRun] at h
    split at h <;> cases h
    · next hidle => exact .inr ⟨rfl, hidle, rfl⟩
    · exact .inl (s.answeredBy_fault (List.mem_singleton_self _))
  | varm pool index ticks =>
    simp only [exec, execVarm] at h
    split at h <;> cases h
    · next hcheck => exact .inl (s.answeredBy_fault (checkSlot_error hcheck))
    · exact .inl (s.answeredBy_result rfl)
  | vdec pool =>
    simp only [exec, execVdec] at h
    split at h <;> cases h
    · next hcheck => exact .inl (s.answeredBy_fault (checkPool_error hcheck))
    · exact .inl (s.answeredBy_result rfl)
  | vqry pool index =>
    simp only [exec, execVqry] at h
    split at h <;> cases h
    · next hcheck => exact .inl (s.answeredBy_fault (checkSlot_error hcheck))
    · exact .inl (s.answeredBy_result rfl)
  | rdf reg boff wid =>
    simp only [exec, execRdf] at h
    split at h <;> cases h
    · next hcheck => exact .inl (s.answeredBy_fault (checkField_error hcheck))
    · exact .inl (s.answeredBy_result rfl)
  | wrf reg boff val wid =>
    simp only [exec, execWrf] at h
    split at h <;> cases h
    · next hcheck => exact .inl (s.answeredBy_fault (checkField_error hcheck))
    · exact .inl (s.answeredBy_result (s.writeReg_out _ _))

/-- Settles O49: a word that decodes to no command answers one of the two IllegalCommand faults, and a command one of its operation's. -/
theorem everyFaultIsOfItsOperation : Obligations.EveryFaultIsOfItsOperation := by
  intro w s t r h hout hstatus
  rcases perform_cases h with ⟨f, hw, rfl⟩ | ⟨i, hw, hexec⟩
  · cases hout
    rw [hw]
    rcases decode_eq_error hw with rfl | rfl <;> decide
  · rw [hw]
    rcases exec_answers hexec with (⟨f, hf, rfl⟩ | ⟨d, hd⟩) | ⟨-, -, rfl⟩
    · cases hout
      exact faultCodes_some _ ▸ List.mem_map_of_mem hf
    · cases hd.symm.trans hout
      exact absurd rfl hstatus
    · exact absurd hout List.ne_cons_self

end Machine

end Sys2Proof
end

section
/-!
PROOFS. The encoding family: an accepted RUN ends, and every command answers once.
-/

namespace Sys2Proof.Machine

/-! ### The turns of the main context while a RUN is in progress (R136 to R139) -/

theorem mainTurn_of_take {s : State} {g : Gran} (hphase : s.seq.phase = .take g) : mainTurn s = .next (s.take g) := by
  simp only [mainTurn, hphase]

/-- With its body used up, the callback returns (R139). -/
theorem mainTurn_of_body_end {s : State} {g : Gran} (hphase : s.seq.phase = .cb g)
    (hend : (s.par.bodies.get g)[s.seq.pos]? = none) : mainTurn s = .next (s.leave g) := by
  simp only [mainTurn, hphase, cbStep, hend]

/-- The length of the callback body of granularity g. -/
def State.bodyLength (s : State) (g : Gran) : Nat := (s.par.bodies.get g).length

/-- How many turns of the main context a RUN takes at most after granularity g: per later granularity a TAKE, its body's words and the return. -/
def State.turnsAfter (s : State) : Gran → Nat
  | .fast => (s.bodyLength .med + 2) + (s.bodyLength .slow + 2)
  | .med => s.bodyLength .slow + 2
  | .slow => 0

/-- How many turns of the main context the RUN in progress takes at most, none when the sequencer is idle. -/
def State.turnsLeft (s : State) : Nat :=
  match s.seq.phase with
  | .idle => 0
  | .take g => s.bodyLength g + 2 + s.turnsAfter g
  | .cb g => s.bodyLength g - s.seq.pos + 1 + s.turnsAfter g

theorem State.bodyLength_congr {s t : State} (hpar : t.par = s.par) (g : Gran) : t.bodyLength g = s.bodyLength g := by
  rw [State.bodyLength, hpar, State.bodyLength]

theorem State.turnsAfter_congr {s t : State} (hpar : t.par = s.par) (g : Gran) : t.turnsAfter g = s.turnsAfter g := by
  cases g <;> simp only [State.turnsAfter, State.bodyLength_congr hpar]

theorem State.turnsLeft_of_take {s : State} {g : Gran} (hphase : s.seq.phase = .take g) :
    s.turnsLeft = s.bodyLength g + 2 + s.turnsAfter g := by
  rw [State.turnsLeft, hphase]

theorem State.turnsLeft_of_cb {s : State} {g : Gran} (hphase : s.seq.phase = .cb g) :
    s.turnsLeft = s.bodyLength g - s.seq.pos + 1 + s.turnsAfter g := by
  rw [State.turnsLeft, hphase]

theorem State.turnsLeft_pos {s : State} (hbusy : s.seq.phase ≠ .idle) : 0 < s.turnsLeft := by
  cases hphase : s.seq.phase with
  | idle => exact absurd hphase hbusy
  | take g => rw [State.turnsLeft_of_take hphase]; omega
  | cb g => rw [State.turnsLeft_of_cb hphase]; omega

/-- The turn from s to t ends the RUN: the sequencer is idle again and RUN's response is given (R136). -/
structure State.TurnEndsRun (s t : State) : Prop where
  seq : t.seq = ⟨.idle, 0⟩
  out : t.out = .response ⟨0#4, 0#32⟩ :: s.out

/-- The turn from s to t does not end the RUN: the sequencer stays busy, only a body's word answers, and fewer turns are left. -/
structure State.TurnGoesOn (s t : State) : Prop where
  busy : t.seq.phase ≠ .idle
  answer : ∀ r, t.out = .response r :: s.out → s.nextWord ≠ none
  left : t.turnsLeft < s.turnsLeft

/-- Leaving a granularity ends the RUN after the last one, and otherwise begins the next TAKE. -/
theorem State.leave_ends_or_goes_on {s : State} {g : Gran} (h : s.turnsAfter g < s.turnsLeft) :
    s.TurnEndsRun (s.leave g) ∨ s.TurnGoesOn (s.leave g) := by
  cases g with
  | fast => exact .inr ⟨nofun, fun _ hr => absurd hr List.ne_cons_self, h⟩
  | med => exact .inr ⟨nofun, fun _ hr => absurd hr List.ne_cons_self, h⟩
  | slow => exact .inl ⟨rfl, rfl⟩

theorem State.take_ends_or_goes_on {s : State} {g : Gran} (hphase : s.seq.phase = .take g) :
    s.TurnEndsRun (s.take g) ∨ s.TurnGoesOn (s.take g) := by
  have hleft := State.turnsLeft_of_take hphase
  by_cases hflag : s.flags.get g = true
  · have hpar := s.take_par g
    rw [State.take, if_pos hflag] at hpar ⊢
    refine .inr ⟨nofun, nofun, ?_⟩
    rw [State.turnsLeft_of_cb rfl, State.bodyLength_congr hpar, State.turnsAfter_congr hpar, hleft]
    omega
  · rw [State.take, if_neg hflag]
    exact State.leave_ends_or_goes_on (by omega)

theorem State.body_word_goes_on {s u : State} {g : Gran} {w : Word64} (hphase : s.seq.phase = .cb g)
    (hw : (s.par.bodies.get g)[s.seq.pos]? = some w) (hu : perform w s = .next u) : s.TurnGoesOn u.bumpPos := by
  obtain ⟨hseq, hpar, -⟩ := perform_while_busy (by rw [hphase]; nofun) hu
  have hlt : s.seq.pos < s.bodyLength g := (List.getElem?_eq_some_iff.1 hw).1
  have hpar_u : u.bumpPos.par = s.par := hpar
  have hphase_u : u.bumpPos.seq.phase = .cb g := by rw [State.bumpPos_seq, hseq, hphase]
  have hpos_u : u.bumpPos.seq.pos = s.seq.pos + 1 := by rw [State.bumpPos_seq, hseq]
  refine ⟨?_, fun _ _ => ?_, ?_⟩
  · rw [hphase_u]; nofun
  · simp [State.nextWord, hphase, hw]
  · rw [State.turnsLeft_of_cb hphase_u, State.bodyLength_congr hpar_u, State.turnsAfter_congr hpar_u, State.turnsLeft_of_cb hphase,
      hpos_u]
    omega

/-- A turn of the main context during a RUN ends it or brings it nearer to its end. -/
theorem mainTurn_while_busy {s : State} (hbusy : s.seq.phase ≠ .idle) :
    ∃ t, mainTurn s = .next t ∧ (s.TurnEndsRun t ∨ s.TurnGoesOn t) := by
  cases hphase : s.seq.phase with
  | idle => exact absurd hphase hbusy
  | take g => exact ⟨s.take g, mainTurn_of_take hphase, State.take_ends_or_goes_on hphase⟩
  | cb g =>
    cases hw : (s.par.bodies.get g)[s.seq.pos]? with
    | some w =>
      obtain ⟨u, hu⟩ := perform_next w s
      exact ⟨u.bumpPos, by rw [mainTurn_of_body_word hphase hw, hu]; rfl, .inr (State.body_word_goes_on hphase hw hu)⟩
    | none =>
      refine ⟨s.leave g, mainTurn_of_body_end hphase hw, State.leave_ends_or_goes_on ?_⟩
      rw [State.turnsLeft_of_cb hphase]
      omega

/-! ### A RUN ends (R136) -/

/-- The turn that ends a RUN is its last. -/
theorem State.TurnEndsRun.runEndsWith {s t : State} (hbusy : s.seq.phase ≠ .idle) (hturn : mainTurn s = .next t)
    (h : s.TurnEndsRun t) : s.RunEndsWith 0 t := by
  refine ⟨s, rfl, hturn, h.seq, h.out, fun m x hm hx => ?_⟩
  obtain rfl := Nat.le_zero.1 hm
  cases hx
  exact ⟨hbusy, nofun⟩

/-- A RUN that goes on takes one turn more than what is left of it. -/
theorem State.TurnGoesOn.runEndsWith {s s' t : State} {n : Nat} (hbusy : s.seq.phase ≠ .idle) (hturn : mainTurn s = .next s')
    (h : s.TurnGoesOn s') (hrun : s'.RunEndsWith n t) : s.RunEndsWith (n + 1) t := by
  obtain ⟨u, hu, hlast, hseq, hout, hbefore⟩ := hrun
  have hfirst : ∀ m, turnSeq (List.replicate (m + 1) .main) s = turnSeq (List.replicate m .main) s' :=
    fun m => turnSeq_cons hturn
  refine ⟨u, (hfirst n).trans hu, hlast, hseq, hout, fun m x hm hx => ?_⟩
  cases m with
  | zero =>
    cases hx
    refine ⟨hbusy, fun _ y r hy hr => ?_⟩
    cases hturn.symm.trans hy
    exact h.answer r hr
  | succ m =>
    obtain ⟨hx_busy, hx_answer⟩ := hbefore m x (by omega) ((hfirst m).symm.trans hx)
    exact ⟨hx_busy, fun hlt => hx_answer (by omega)⟩

/-- A RUN in progress ends within the turns that are left, by induction on their number. -/
theorem State.exists_runEndsWith {s : State} (hbusy : s.seq.phase ≠ .idle) :
    ∃ n t, n + 1 ≤ s.turnsLeft ∧ s.RunEndsWith n t := by
  induction hk : s.turnsLeft using Nat.strong_induction_on generalizing s with
  | _ k ih =>
    obtain ⟨s', hturn, hends | hgoes⟩ := mainTurn_while_busy hbusy
    · exact ⟨0, s', hk ▸ State.turnsLeft_pos hbusy, hends.runEndsWith hbusy hturn⟩
    · obtain ⟨n, t, hn, hrun⟩ := ih s'.turnsLeft (hk ▸ hgoes.left) hgoes.busy rfl
      have := hgoes.left
      exact ⟨n + 1, t, by omega, hgoes.runEndsWith hbusy hturn hrun⟩

/-- Settles O48: a fault and a result are one response each; an accepted RUN answers when it ends, as it does within the turns left. -/
theorem everyCommandAnswersOnce : Obligations.EveryCommandAnswersOnce := by
  intro w s
  have hfault : ∀ f, ∃ r, (s.respond (faultResponse f)).out = .response r :: s.out ∧ r.status.toNat ≤ 5 ∧
      (r.status ≠ 0#4 → r.rdata.toNat < 256) :=
    fun f => ⟨faultResponse f, rfl, faultStatus_le f, fun _ => faultResponse_rdata_lt f⟩
  obtain ⟨t, ht⟩ := perform_next w s
  refine ⟨t, ht, ?_⟩
  rcases perform_cases ht with ⟨f, -, rfl⟩ | ⟨i, hw, hexec⟩
  · exact .inl (hfault f)
  · rcases exec_answers hexec with (⟨f, -, rfl⟩ | ⟨d, hd⟩) | ⟨rfl, hidle, rfl⟩
    · exact .inl (hfault f)
    · exact .inl ⟨⟨0#4, d⟩, hd, Nat.zero_le 5, fun h => absurd rfl h⟩
    · obtain ⟨n, u, -, hrun⟩ := State.exists_runEndsWith (s := s.setSeq (.take .fast) 0) nofun
      exact .inr ⟨hw, hidle, rfl, n, u, hrun⟩

end Sys2Proof.Machine
end

section
/-!
PROOFS. The timer family: the turns that are refused, and the states of the timer in which none is (R108, R109, R188).
-/

namespace Sys2Proof.Machine

/-! ### A turn by its agent (R14) -/

theorem step_of_nextTurn_timer {s : State} (hturn : s.nextTurn = .timer) : step s = timerTurn s.takeTurn := by
  simp only [step, hturn, agentTurn]

theorem step_of_nextTurn_dispatcher {s : State} (hturn : s.nextTurn = .dispatcher) :
    step s = dispatcherTurn s.takeTurn := by
  simp only [step, hturn, agentTurn]

/-- Settles O9: the three turns answer the state they are given, in which only the turn has been taken. -/
theorem disabledAgentTakesNoStep : Obligations.DisabledAgentTakesNoStep := by
  rintro s (⟨hturn, hen⟩ | ⟨hturn, hirq⟩ | ⟨hturn, hidle, hcmds⟩)
  · exact (step_of_nextTurn_timer hturn).trans (timerTurn_eq_next.2 (.inl ⟨hen, rfl⟩))
  · exact (step_of_nextTurn_dispatcher hturn).trans (dispatcherTurn_eq_next.2 (.inr ⟨hirq, rfl⟩))
  · have hstay : mainTurn s.takeTurn = .next s.takeTurn := by
      simp only [mainTurn, issueCommand, State.takeTurn_seq, State.takeTurn_cmds, hidle, hcmds]
    exact (step_of_nextTurn_main hturn).trans hstay

/-! ### The tick (R108) -/

/-- T_COUNT runs out exactly at 1: a counter at 0 would wrap around. -/
theorem count_sub_one_eq_zero {c : Count} : c - 1#23 = 0#23 ↔ c = 1#23 := by constructor <;> intro h <;> bv_omega

theorem State.count_of_tCount_eq_one {s : State} (h : s.tCount = 1#23) :
    s.count = { s with tCount := s.tLoad, irqPend := if s.edge then true else s.irqPend } := by
  rw [State.count_eq, if_pos (count_sub_one_eq_zero.2 h), h]
  cases s.edge <;> simp

theorem State.count_of_tCount_ne_one {s : State} (h : s.tCount ≠ 1#23) : s.count = { s with tCount := s.tCount - 1#23 } :=
  if_neg (mt count_sub_one_eq_zero.1 h)

/-- Settles O17: the timer's turn is stopped, in a state of R109, or counts. -/
theorem timerTickCounts : Obligations.TimerTickCounts := by
  intro s hturn
  rw [step_of_nextTurn_timer hturn]
  refine ⟨fun hen => timerTurn_eq_next.2 (.inl ⟨hen, rfl⟩), fun hen hbad => ?_, fun hen hps har hcount => ?_,
    fun hen hps har hcount => ?_⟩
  · by_cases hps : s.tCtrl.ps = 3#2
    · exact ⟨_, timerTurn_eq_refused.2 ⟨hen, .inl ⟨hps, rfl⟩⟩⟩
    · cases har : s.tCtrl.ar with
      | false => exact ⟨_, timerTurn_eq_refused.2 ⟨hen, .inr (.inl ⟨hps, har, rfl⟩)⟩⟩
      | true =>
        have hzero : s.tCount = 0#23 := by simpa [hps, har] using hbad
        exact ⟨_, timerTurn_eq_refused.2 ⟨hen, .inr (.inr ⟨hps, har, hzero, rfl⟩)⟩⟩
  · have hone : s.takeTurn.tCount ≠ 1#23 := by rw [State.takeTurn_tCount]; bv_omega
    refine timerTurn_eq_next.2 (.inr ⟨hen, hps, har, ?_, (State.count_of_tCount_ne_one hone).symm⟩)
    rw [State.takeTurn_tCount]; bv_omega
  · refine timerTurn_eq_next.2 (.inr ⟨hen, hps, har, ?_, (State.count_of_tCount_eq_one (s := s.takeTurn) hcount).symm⟩)
    rw [State.takeTurn_tCount, hcount]; decide

/-! ### Refusals (R109, R188) -/

/-- The timer's turn is the only one that can be refused: the others answer a next state. -/
theorem step_eq_refused {s : State} {r : Refusal} (h : step s = .refused r) :
    s.nextTurn = .timer ∧ timerTurn s.takeTurn = .refused r := by
  cases hturn : s.nextTurn with
  | timer => exact ⟨rfl, step_of_nextTurn_timer hturn ▸ h⟩
  | dispatcher =>
    rw [step_of_nextTurn_dispatcher hturn, dispatcherTurn] at h
    split at h <;> cases h
  | main =>
    obtain ⟨t, ht⟩ := mainTurn_next s.takeTurn
    rw [step_of_nextTurn_main hturn, ht] at h
    cases h
  | reset =>
    simp only [step, hturn, agentTurn] at h
    cases h

/-- Settles O18: only the timer's turn can be refused, and each of its refusals names the state it found. -/
theorem onlyRefusedTicksRefuse : Obligations.OnlyRefusedTicksRefuse := by
  intro s r h
  obtain ⟨hturn, hr⟩ := step_eq_refused h
  obtain ⟨hen, ⟨hps, rfl⟩ | ⟨-, har, rfl⟩ | ⟨-, -, hcount, rfl⟩⟩ := timerTurn_eq_refused.1 hr
  · exact ⟨hturn, hen, .inl ⟨rfl, hps⟩⟩
  · exact ⟨hturn, hen, .inr (.inl ⟨rfl, har⟩)⟩
  · exact ⟨hturn, hen, .inr (.inr ⟨rfl, hcount⟩)⟩

/-- A configured timer is in none of the states of R109. -/
theorem State.TimerConfigured.step_ne_refused {s : State} (hs : s.TimerConfigured) (r : Refusal) : step s ≠ .refused r := by
  intro h
  obtain ⟨har, hps, -, hcount⟩ := hs
  obtain ⟨-, -, ⟨-, hbad⟩ | ⟨-, hbad⟩ | ⟨-, hbad⟩⟩ := onlyRefusedTicksRefuse s r h
  · exact hps hbad
  · exact absurd har (by simp [hbad])
  · exact hcount hbad

/-- The machine of a configured timer always answers a next state: the type of its stopping faults is empty (log entry 4). -/
theorem State.TimerConfigured.exists_step {s : State} (hs : s.TimerConfigured) : ∃ t, step s = .next t := by
  cases h : step s with
  | next t => exact ⟨t, rfl⟩
  | fault f => exact nomatch f
  | refused r => exact absurd h (hs.step_ne_refused r)

end Sys2Proof.Machine
end

section
/-!
PROOFS. The timer family: what TINIT answers and leaves, alone and beside its six field writes (R101 to R106, R174).
-/

namespace Sys2Proof.Machine

/-! ### TINIT (R101 to R103) -/

/-- The table of divisors, selector by selector (R74). -/
theorem mem_divisors {psel : Sel} {P : Nat} : (psel, P) ∈ divisors ↔ divisor psel = some P := by
  have hsel : psel = 0#2 ∨ psel = 1#2 ∨ psel = 2#2 ∨ psel = 3#2 := by revert psel; decide
  rcases hsel with rfl | rfl | rfl | rfl <;> simp [divisors, divisor, eq_comm]

theorem exec_tinit_of_error {s : State} {freq : Word32} {psel : Sel} {f : CmdFault} (h : checkReload s freq psel = .error f) :
    exec (.tinit freq psel) s = .next (s.respond (faultResponse f)) := by
  simp only [exec, execTinit, h]
  rfl

theorem exec_tinit_of_ok {s : State} {freq : Word32} {psel : Sel} {r : Nat} (h : checkReload s freq psel = .ok r) :
    exec (.tinit freq psel) s =
      .next (((s.program psel (BitVec.ofNat 23 r)).latch freq psel (BitVec.ofNat 23 r)).respond ⟨0#4, 0#32⟩) := by
  simp only [exec, execTinit, h]
  rfl

/-- TINIT's checks pass with a divisor of the table and a reload count that fits (R101, R102). -/
theorem checkReload_of_mem_divisors {s : State} {freq : Word32} {psel : Sel} {P R : Nat} (hP : (psel, P) ∈ divisors)
    (hfreq : freq ≠ 0#32) (hR : R = s.par.clkHz / (P * freq.toNat)) (hpos : 1 ≤ R) (hmax : R ≤ 8388607) :
    checkReload s freq psel = .ok R := by
  obtain ⟨hsel, rfl⟩ := divisor_eq_some.1 (mem_divisors.1 hP)
  exact checkReload_eq_ok.2 ⟨hsel, hfreq, hR, hpos, hmax⟩

/-- Settles O11: the checks pass, and the six register effects and the latch are all that TINIT writes. -/
theorem tinitProgramsTimer : Obligations.TinitProgramsTimer := by
  intro s freq psel P R hP hfreq hR hpos hmax
  rw [exec_tinit_of_ok (checkReload_of_mem_divisors hP hfreq hR hpos hmax), State.program_eq]
  rfl

/-- Settles O12: each clause is the first of the four checks that fails. -/
theorem tinitFaultsInOrder : Obligations.TinitFaultsInOrder := by
  intro s freq psel
  refine ⟨fun hsel => ?_, fun hsel hfreq => ?_, fun P R hP hfreq hR => ?_⟩
  · exact exec_tinit_of_error (f := .prescalerReserved) (by simp only [checkReload, divisor_eq_none.2 hsel])
  · have hdiv : divisor psel = some (16 ^ psel.toNat) := divisor_eq_some.2 ⟨hsel, rfl⟩
    exact exec_tinit_of_error (f := .freqZero) (by simp only [checkReload, hdiv, if_pos hfreq])
  · have hcheck : checkReload s freq psel =
        if R = 0 then .error .reloadZero else if R > Config.maxReload then .error .reloadTooBig else .ok R := by
      simp only [checkReload, mem_divisors.1 hP, if_neg hfreq, reloadCount, ← hR]
    refine ⟨fun hzero => ?_, fun hbig => ?_⟩
    · exact exec_tinit_of_error (f := .reloadZero) (by rw [hcheck, if_pos hzero])
    · exact exec_tinit_of_error (f := .reloadTooBig) (by rw [hcheck, if_neg (by omega), if_pos hbig])

/-! ### TINIT as six field writes (R102, R174) -/

theorem execSeq_cons {i : Instr} {l : List Instr} {s t u : State} (h : exec i s = .next t) (hl : execSeq l t = .next u) :
    execSeq (i :: l) s = .next u := by
  simpa only [execSeq, chain, h] using hl

/-- A word with the bits of T_CTRL's fields at their positions is stored as those fields (R28). -/
theorem ctrlOfBits_eq {v : Word32} {c : TCtrl} (hen : v.getLsbD 7 = c.en) (har : v.getLsbD 6 = c.ar)
    (hps1 : v.getLsbD 3 = c.ps.getLsbD 1) (hps0 : v.getLsbD 2 = c.ps.getLsbD 0) : ctrlOfBits v = c := by
  have hps : v.extractLsb' 2 2 = c.ps := by
    ext k hk
    rw [BitVec.getElem_extractLsb']
    have : k = 0 ∨ k = 1 := by omega
    rcases this with rfl | rfl
    · exact hps0
    · exact hps1
  rw [ctrlOfBits, hen, har, hps]

/-- Bit 6 of T_CTRL is AR (R28). -/
theorem ctrlOfBits_fieldPut_ar (c : TCtrl) (val : Word32) :
    ctrlOfBits (fieldPut (ctrlBits c) 6 1 val) = { c with ar := val.getLsbD 0 } := by
  apply ctrlOfBits_eq <;> rw [getLsbD_fieldPut _ _ _ _ (by omega)] <;> simp only [getLsbD_ctrlBits] <;> rfl

/-- Bits [3:2] of T_CTRL are PS (R28). -/
theorem ctrlOfBits_fieldPut_ps (c : TCtrl) (psel : Sel) :
    ctrlOfBits (fieldPut (ctrlBits c) 2 2 (psel.setWidth 32)) = { c with ps := psel } := by
  apply ctrlOfBits_eq <;> rw [getLsbD_fieldPut _ _ _ _ (by omega)] <;> simp only [getLsbD_ctrlBits, BitVec.getLsbD_setWidth] <;> rfl

/-- A field write answers (0, 0) with what its register write leaves (R174). -/
theorem exec_wrf_of_writeReg {s u : State} {r : Reg} {boff wid : Byte} {val : Word32} (hr : r ≠ .tCount)
    (hf : FieldInside boff wid) (hwrite : s.writeReg r (fieldPut (s.readReg r) boff.toNat wid.toNat val) = u) :
    exec (.wrf (offsetOf r) boff val wid) s = u.succeed 0#32 :=
  (execWrf_of_fieldInside s val hr hf).trans (congrArg (State.succeed · 0#32) hwrite)

theorem exec_wrf_auto_reload (s : State) (val : Word32) :
    exec (.wrf 0x08#8 6#8 val 1#8) s = (s.setAutoReload (val.getLsbD 0)).succeed 0#32 :=
  exec_wrf_of_writeReg (r := .tCtrl) nofun ⟨by decide, by decide⟩
    (congrArg (fun c => { s with tCtrl := c }) (ctrlOfBits_fieldPut_ar s.tCtrl val))

theorem exec_wrf_prescaler (s : State) (psel : Sel) :
    exec (.wrf 0x08#8 2#8 (psel.setWidth 32) 2#8) s = (s.setPrescaler psel).succeed 0#32 :=
  exec_wrf_of_writeReg (r := .tCtrl) nofun ⟨by decide, by decide⟩
    (congrArg (fun c => { s with tCtrl := c }) (ctrlOfBits_fieldPut_ps s.tCtrl psel))

/-- A write of all 23 bits of T_LOAD stores the written count, whatever was there (R26, R174). -/
theorem setWidth_fieldPut_load (old : Word32) (R : Nat) :
    (fieldPut old 0 23 (BitVec.ofNat 32 R)).setWidth 23 = BitVec.ofNat 23 R := by
  refine BitVec.eq_of_getLsbD_eq fun k hk => ?_
  have hk32 : k < 32 := by omega
  rw [BitVec.getLsbD_setWidth, getLsbD_fieldPut _ _ _ _ hk32, if_pos (by omega), Nat.sub_zero,
    BitVec.getLsbD_ofNat, BitVec.getLsbD_ofNat, decide_eq_true hk32, Bool.true_and]

theorem exec_wrf_load (s : State) (R : Nat) :
    exec (.wrf 0x00#8 0#8 (BitVec.ofNat 32 R) 23#8) s = (s.writeLoad (BitVec.ofNat 23 R)).succeed 0#32 :=
  exec_wrf_of_writeReg (r := .tLoad) nofun ⟨by decide, by decide⟩ (congrArg s.writeLoad (setWidth_fieldPut_load _ R))

theorem exec_wrf_edge (s : State) (val : Word32) :
    exec (.wrf 0x10#8 0#8 val 1#8) s = (s.setEdge (val.getLsbD 0)).succeed 0#32 :=
  exec_wrf_of_writeReg (r := .tIntType) nofun ⟨by decide, by decide⟩
    (congrArg s.setEdge (getLsbD_fieldPut _ val 0 1 (k := 0) (by decide)))

/-- Settles O13: each of the six writes is one of the six register effects of TINIT, with a response of its own. -/
theorem tinitEqualsSixFieldWrites : Obligations.TinitEqualsSixFieldWrites := by
  intro s freq psel P R hP hfreq hR hpos hmax
  refine ⟨_, _, exec_tinit_of_ok (checkReload_of_mem_divisors hP hfreq hR hpos hmax),
    execSeq_cons (exec_wrf_run_bit ..) <| execSeq_cons (exec_wrf_prescaler ..) <| execSeq_cons (exec_wrf_load ..) <|
      execSeq_cons (exec_wrf_auto_reload ..) <| execSeq_cons (exec_wrf_run_bit ..) <|
        execSeq_cons (exec_wrf_edge ..) rfl, ?_⟩
  simp [State.dtu, State.setPrescaler, State.setAutoReload, State.setEdge]

/-! ### TEN and TDIS (R104 to R106) -/

/-- Settles O14: TEN and TDIS write the run bit and respond. -/
theorem runBitCommandsComplete : Obligations.RunBitCommandsComplete := fun _ => ⟨rfl, rfl⟩

/-- A run bit command, as the write of the run bit that it is. -/
theorem exec_run_bit {i : Instr} (hi : i = .ten ∨ i = .tdis) :
    ∃ b, ∀ s, exec i s = .next ((s.setRun b).respond ⟨0#4, 0#32⟩) := by
  rcases hi with rfl | rfl
  · exact ⟨true, fun _ => rfl⟩
  · exact ⟨false, fun _ => rfl⟩

/-- Settles O16: the second write of the run bit overwrites the first. -/
theorem runBitIdempotence : Obligations.RunBitIdempotence := by
  intro s a b ha hb
  obtain ⟨x, hx⟩ := exec_run_bit ha
  obtain ⟨y, hy⟩ := exec_run_bit hb
  exact ⟨_, _, execSeq_cons (hx s) (execSeq_cons (hy _) rfl), hy s, rfl⟩

end Sys2Proof.Machine
end

section
/-!
PROOFS. The timer family: which steps keep a timer configured, and when T_COUNT stands still (R109, R110, R197).
-/

namespace Sys2Proof

/-- A field write is one of the commands that may write a timer register. -/
theorem Instr.not_isFieldWrite_of_not_writesTimer {i : Instr} (h : i.writesTimer = false) : i.isFieldWrite = false := by
  cases i with
  | wrf => cases h
  | _ => rfl

namespace Machine

/-! ### A configured timer (R109) -/

theorem State.TimerConfigured.congr {s t : State} (h : s.TimerConfigured) (hctrl : t.tCtrl = s.tCtrl)
    (hload : t.tLoad = s.tLoad) (hcount : t.tCount = s.tCount) : t.TimerConfigured := by
  rwa [State.TimerConfigured, hctrl, hload, hcount]

/-- The reload count that TINIT's checks pass fits the 23 bits of T_LOAD, and is not 0 (R101, R102). -/
theorem toNat_reload_of_checkReload {s : State} {freq : Word32} {psel : Sel} {r : Nat}
    (h : checkReload s freq psel = .ok r) : (BitVec.ofNat 23 r).toNat = r ∧ 1 ≤ r := by
  obtain ⟨-, -, -, hpos, hmax⟩ := checkReload_eq_ok.1 h
  refine ⟨?_, hpos⟩
  rw [BitVec.toNat_ofNat]
  exact Nat.mod_eq_of_lt (by unfold Config.maxReload at hmax; omega)

theorem timerConfigured_of_checkReload {s : State} {freq : Word32} {psel : Sel} {r : Nat}
    (h : checkReload s freq psel = .ok r) : (s.program psel (BitVec.ofNat 23 r)).TimerConfigured := by
  obtain ⟨hsel, -⟩ := checkReload_eq_ok.1 h
  obtain ⟨hfits, hpos⟩ := toNat_reload_of_checkReload h
  have hne : BitVec.ofNat 23 r ≠ 0#23 := by
    intro hzero
    rw [hzero] at hfits
    exact absurd hfits (by simp; omega)
  exact ⟨rfl, hsel, hne, hne⟩

/-- A command that is no field write keeps the timer configured: TINIT configures it anew, TEN and TDIS write the run bit alone. -/
theorem State.TimerConfigured.exec {i : Instr} {s t : State} (hs : s.TimerConfigured) (hi : i.isFieldWrite = false)
    (h : exec i s = .next t) : t.TimerConfigured := by
  rcases exec_cases h with ⟨f, rfl⟩ | hrow
  · exact hs
  · cases i <;> simp only at hrow
    case tinit freq psel =>
      obtain ⟨r, hr, rfl⟩ := hrow
      exact (timerConfigured_of_checkReload hr).congr rfl rfl rfl
    case ten | tdis => subst hrow; exact hs
    case wrf => cases hi
    all_goals
      obtain ⟨-, -, -, -, htimer, -⟩ := commandFrame _ _ _ h
      obtain ⟨hL, hT, hC, -⟩ := htimer rfl
      exact hs.congr hC hL hT

/-- A tick of a configured timer does not leave T_COUNT at 0: it reloads instead (R108). -/
theorem State.TimerConfigured.count {s : State} (hs : s.TimerConfigured) : s.count.TimerConfigured := by
  obtain ⟨har, hps, hload, -⟩ := hs
  refine ⟨by simpa using har, by simpa using hps, by simpa using hload, ?_⟩
  by_cases hone : s.tCount = 1#23
  · rw [State.count_of_tCount_eq_one hone]; exact hload
  · rw [State.count_of_tCount_ne_one hone]; exact mt count_sub_one_eq_zero.1 hone

/-- Settles O19: a tick reloads T_COUNT before it would be 0, a D.IRQ and a TAKE do not touch the timer, and no command but WRF leads out of the
configured states. -/
theorem stepKeepsTimerConfigured : Obligations.StepKeepsTimerConfigured := by
  intro s t hs hreset hnowrite h
  rcases step_registers h with hr | ⟨-, -, rfl⟩ | ⟨-, -, rfl⟩ | ⟨i, ws, u, -, hi, hu, hr⟩ | ⟨g, -, -, hr⟩ | ⟨hturn, -⟩
  · exact hs.congr hr.tCtrl hr.tLoad hr.tCount
  · exact State.TimerConfigured.count (s := s.takeTurn) hs
  · exact hs.congr (by simp) (by simp) (by simp)
  · have hu : u.TimerConfigured :=
      State.TimerConfigured.exec (s := { s.takeTurn with cmds := ws }) hs (hnowrite i hi) hu
    exact hu.congr hr.tCtrl hr.tLoad hr.tCount
  · exact hs.congr (by simp [hr.tCtrl]) (by simp [hr.tLoad]) (by simp [hr.tCount])
  · exact absurd hturn hreset

/-- A TINIT that answers (0, 0) has passed its checks: a fault's STATUS is not 0 (R76). -/
theorem exec_tinit_success {s t : State} {freq : Word32} {psel : Sel} (h : exec (.tinit freq psel) s = .next t)
    (hout : t.out = .response ⟨0#4, 0#32⟩ :: s.out) :
    ∃ r, checkReload s freq psel = .ok r ∧
      t = ((s.program psel (BitVec.ofNat 23 r)).latch freq psel (BitVec.ofNat 23 r)).respond ⟨0#4, 0#32⟩ := by
  rcases exec_cases h with ⟨f, rfl⟩ | hrow
  · have hfault : faultResponse f = ⟨0#4, 0#32⟩ := by simpa using hout
    exact absurd (congrArg Response.status hfault) (faultStatus_ne_zero f)
  · exact hrow

/-- Settles O20: a TINIT that answers (0, 0) has programmed a reload count that is not 0, and a configured timer's tick is in no state of R109. -/
theorem tinitConfiguresTimer : Obligations.TinitConfiguresTimer := by
  refine ⟨fun s t freq psel h hout => ?_, fun s r hs => hs.step_ne_refused r⟩
  obtain ⟨r, hr, rfl⟩ := exec_tinit_success h hout
  exact (timerConfigured_of_checkReload hr).congr rfl rfl rfl

/-! ### T_COUNT while EN = 0 (R110) -/

/-- Of the commands only TINIT and a WRF to T_LOAD write T_COUNT (R26, R27). -/
theorem exec_tCount {i : Instr} {s t : State} (h : exec i s = .next t) (htinit : ∀ freq psel, i ≠ .tinit freq psel)
    (hload : ∀ boff val wid, i ≠ .wrf 0x00#8 boff val wid) : t.tCount = s.tCount := by
  rcases exec_cases h with ⟨f, rfl⟩ | hrow
  · rfl
  · cases i <;> simp only at hrow
    case tinit freq psel => exact absurd rfl (htinit freq psel)
    case ten | tdis => subst hrow; rfl
    case wrf reg boff val wid =>
      obtain ⟨r, hr, rfl⟩ := hrow
      obtain ⟨rfl, -⟩ := checkField_eq_ok.1 hr
      cases r with
      | tLoad => exact absurd rfl (hload boff val wid)
      | tCount | tCtrl | tIntType => rfl
    all_goals
      obtain ⟨-, -, -, -, htimer, -⟩ := commandFrame _ _ _ h
      obtain ⟨-, hT, -⟩ := htimer rfl
      exact hT

/-- Settles O21: with EN = 0 the timer does not tick, and a command that writes T_COUNT is a TINIT or a WRF to T_LOAD. -/
theorem disabledTimerHoldsCount : Obligations.DisabledTimerHoldsCount := by
  intro s t hen hreset htinit hload h
  rcases step_registers h with hr | ⟨-, hen', -⟩ | ⟨-, -, rfl⟩ | ⟨i, ws, u, -, hi, hu, hr⟩ | ⟨g, -, -, hr⟩ | ⟨hturn, -⟩
  · exact hr.tCount
  · exact absurd hen' (Bool.eq_false_iff.1 hen)
  · simp
  · refine hr.tCount.trans (exec_tCount (s := { s.takeTurn with cmds := ws }) hu ?_ ?_)
    · exact fun freq psel heq => htinit freq psel (heq ▸ hi)
    · exact fun boff val wid heq => hload boff val wid (heq ▸ hi)
  · simp [hr.tCount]
  · exact absurd hturn hreset

end Machine

end Sys2Proof
end

section
/-!
PROOFS. The timer family: the period law (R111).
-/

namespace Sys2Proof.Machine

/-! ### Counting modulo the reload count (R101, R111) -/

/-- The counter R - k mod R of the period law is 1 exactly before the ticks whose number R divides. -/
theorem sub_mod_eq_one_iff {R k : Nat} (hR : 0 < R) : R - k % R = 1 ↔ R ∣ k + 1 := by
  have hlt : k % R < R := Nat.mod_lt k hR
  rw [Nat.dvd_iff_mod_eq_zero, ← Nat.mod_add_mod]
  constructor
  · intro h
    rw [show k % R + 1 = R by omega, Nat.mod_self]
  · intro h
    by_contra hne
    rw [Nat.mod_eq_of_lt (by omega)] at h
    omega

/-- One tick later the counter of the period law is one less, or R again after 1. -/
theorem sub_succ_mod {R k : Nat} (hR : 0 < R) :
    R - (k + 1) % R = if R - k % R = 1 then R else R - k % R - 1 := by
  have hlt : k % R < R := Nat.mod_lt k hR
  rw [← Nat.mod_add_mod]
  split
  · rw [show k % R + 1 = R by omega, Nat.mod_self]
    rfl
  · rw [Nat.mod_eq_of_lt (by omega)]
    omega

/-- The first multiple of R is reached by the tick whose number is R. -/
theorem le_succ_iff_le_or_dvd {R k : Nat} (hR : 0 < R) : R ≤ k + 1 ↔ R ≤ k ∨ R ∣ k + 1 := by
  constructor
  · intro h
    rcases Nat.le_succ_iff.1 h with hle | rfl
    · exact .inl hle
    · exact .inr (Nat.dvd_refl _)
  · rintro (hle | hdvd)
    · omega
    · exact Nat.le_of_dvd (by omega) hdvd

/-! ### A running timer (R108, R111) -/

/-- The timer runs with EDGE = 1 and reload count R, and T_COUNT is what k ticks leave of R. -/
structure State.Running (s : State) (R k : Nat) : Prop where
  enabled : s.tCtrl.en = true
  configured : s.TimerConfigured
  edge : s.edge = true
  load : s.tLoad.toNat = R
  count : s.tCount.toNat = R - k % R

/-- The next step is no reset and no command that may write a timer register. -/
def State.LeavesTimerAlone (s : State) : Prop :=
  s.nextTurn ≠ .reset ∧ ∀ i, s.performs = some i → i.writesTimer = false

section Running

variable {s t : State} {R k : Nat}

theorem State.Running.reload_pos (hs : s.Running R k) : 0 < R := by
  obtain ⟨-, -, hload, -⟩ := hs.configured
  have := hs.load
  bv_omega

/-- A running timer's next tick is an expiry exactly when R divides its number. -/
theorem State.Running.tCount_eq_one_iff (hs : s.Running R k) : s.tCount = 1#23 ↔ R ∣ k + 1 := by
  rw [← sub_mod_eq_one_iff hs.reload_pos, ← hs.count, ← BitVec.toNat_inj]
  rfl

theorem State.Running.tick (hs : s.Running R k) : s.count.Running R (k + 1) where
  enabled := by simpa using hs.enabled
  configured := hs.configured.count
  edge := by simpa using hs.edge
  load := by simpa using hs.load
  count := by
    rw [sub_succ_mod hs.reload_pos, ← hs.count]
    by_cases hone : s.tCount = 1#23
    · rw [State.count_of_tCount_eq_one hone, hone]
      exact hs.load
    · obtain ⟨-, -, -, hzero⟩ := hs.configured
      rw [State.count_of_tCount_ne_one hone, if_neg (by bv_omega)]
      bv_omega

/-- A running timer's turn is a tick. -/
theorem State.Running.timerTurn_eq (hs : s.Running R k) : timerTurn s = .next s.count := by
  obtain ⟨har, hps, -, hcount⟩ := hs.configured
  exact timerTurn_eq_next.2 (.inr ⟨hs.enabled, hps, har, hcount, rfl⟩)

theorem State.Running.congr (hs : s.Running R k) (hctrl : t.tCtrl = s.tCtrl) (hedge : t.edge = s.edge)
    (hload : t.tLoad = s.tLoad) (hcount : t.tCount = s.tCount) : t.Running R k where
  enabled := hctrl ▸ hs.enabled
  configured := hs.configured.congr hctrl hload hcount
  edge := hedge ▸ hs.edge
  load := hload ▸ hs.load
  count := hcount ▸ hs.count

theorem State.Running.takeTurn (hs : s.Running R k) : s.takeTurn.Running R k := hs.congr rfl rfl rfl rfl

/-- A step that leaves the timer alone keeps it running, one tick further if the turn is the timer's. -/
theorem State.Running.after_step (hs : s.Running R k) (halone : s.LeavesTimerAlone) (h : step s = .next t) :
    t.Running R (k + (s.nextTurn == .timer).toNat) := by
  by_cases hturn : s.nextTurn = .timer
  · rw [step_of_nextTurn_timer hturn, hs.takeTurn.timerTurn_eq] at h
    cases h
    rw [hturn]
    exact hs.takeTurn.tick
  · obtain ⟨hreset, hnone⟩ := halone
    obtain ⟨hframe, -⟩ := onlyDriverWritesTimerRegisters s t h hreset
    obtain ⟨hload, hctrl, hedge, hcount⟩ := hframe hnone
    rw [beq_false_of_ne hturn]
    exact hs.congr hctrl hedge hload (hcount hturn)

/-- Only an expiry and a turn of the dispatcher change IRQ_PEND in a step that leaves a running timer alone. -/
theorem State.Running.irqPend_after_step (hs : s.Running R k) (hreset : s.nextTurn ≠ .reset) (hdisp : s.nextTurn ≠ .dispatcher)
    (h : step s = .next t) : t.irqPend = (s.irqPend || (s.nextTurn == .timer && decide (R ∣ k + 1))) := by
  by_cases hturn : s.nextTurn = .timer
  · rw [step_of_nextTurn_timer hturn, hs.takeTurn.timerTurn_eq] at h
    cases h
    rw [Bool.eq_iff_iff, State.count_irqPend, hs.takeTurn.tCount_eq_one_iff]
    simp [hturn, hs.edge]
  · obtain ⟨hset, hclear⟩ := pendingInterruptWriters s t h
    cases hs0 : s.irqPend <;> cases ht : t.irqPend
    · simp [hturn]
    · exact absurd (hset hs0 ht).1 hturn
    · exact absurd (hclear hs0 ht) (by simp [hreset, hdisp])
    · rfl

/-- Steps that leave a running timer alone all answer next states, and count its ticks; without a turn of the dispatcher among them, IRQ_PEND is set
from the R-th tick on, if not before. -/
theorem State.Running.after_steps (n : Nat) (hs : s.Running R k)
    (halone : ∀ j < n, ∀ v, runFor j s = .next v → v.LeavesTimerAlone) :
    ∃ u, runFor n s = .next u ∧ u.Running R (k + s.countTicks n) ∧
      ((∀ j < n, ∀ v, runFor j s = .next v → v.nextTurn ≠ .dispatcher) →
        ∀ b, s.irqPend = (b || decide (R ≤ k)) → u.irqPend = (b || decide (R ≤ k + s.countTicks n))) := by
  induction n generalizing s k with
  | zero => exact ⟨s, rfl, hs, fun _ b hb => hb⟩
  | succ n ih =>
    obtain ⟨t, ht⟩ := hs.configured.exists_step
    have hfirst : s.LeavesTimerAlone := halone 0 (Nat.succ_pos n) s rfl
    have hrest : ∀ j < n, ∀ v, runFor j t = .next v → v.LeavesTimerAlone :=
      fun j hj v hv => halone (j + 1) (by omega) v (runFor_succ ht j ▸ hv)
    obtain ⟨u, hu, hrun, hirq⟩ := ih (hs.after_step hfirst ht) hrest
    have hticks : s.countTicks (n + 1) = (s.nextTurn == .timer).toNat + t.countTicks n := State.countSteps_succ ht n
    rw [hticks, ← Nat.add_assoc]
    refine ⟨u, (runFor_succ ht n).trans hu, hrun, fun hdisp b hb => ?_⟩
    refine hirq (fun j hj v hv => hdisp (j + 1) (by omega) v (runFor_succ ht j ▸ hv)) b ?_
    rw [hs.irqPend_after_step hfirst.1 (hdisp 0 (Nat.succ_pos n) s rfl) ht, hb, Bool.or_assoc]
    congr 1
    by_cases hturn : s.nextTurn = .timer
    · simp [hturn, le_succ_iff_le_or_dvd hs.reload_pos]
    · rw [beq_false_of_ne hturn]; simp

/-! ### The period law (R111) -/

/-- A step that performs a command does what the command does, and moves on in the body if the command stands in one (R139). -/
theorem step_of_performs {i : Instr} (hi : s.performs = some i) (h : step s = .next t) :
    ∃ cmds u, exec i { s.takeTurn with cmds := cmds } = .next u ∧ (t = u ∨ t = u.bumpPos) := by
  unfold State.performs at hi
  split_ifs at hi with hturn
  obtain ⟨w, hw, hdecode⟩ := Option.bind_eq_some_iff.1 hi
  have hperform : ∀ u, perform w u = exec i u := by
    intro u
    rw [perform]
    cases hd : decode w with
    | error f => simp [hd, Except.toOption] at hdecode
    | ok j =>
      simp only [hd, Except.toOption, Option.some.injEq] at hdecode
      rw [hdecode]
  rw [step_of_nextTurn_main hturn] at h
  cases hphase : s.seq.phase with
  | idle =>
    simp only [State.nextWord, hphase, List.head?_eq_some_iff] at hw
    obtain ⟨ws, hcmds⟩ := hw
    rw [mainTurn_of_idle (s := s.takeTurn) hphase hcmds, hperform] at h
    exact ⟨ws, t, h, .inl rfl⟩
  | take g => simp [State.nextWord, hphase] at hw
  | cb g =>
    simp only [State.nextWord, hphase] at hw
    obtain ⟨u, hu⟩ := exec_next i s.takeTurn
    rw [mainTurn_of_body_word (s := s.takeTurn) hphase hw, hperform, hu] at h
    cases h
    exact ⟨s.cmds, u, hu, .inr rfl⟩

/-- After a step that performs a successful TINIT the timer runs with the reload count that was latched, and has not ticked. -/
theorem running_of_tinit {freq : Word32} {psel : Sel} (hi : s.performs = some (.tinit freq psel)) (h : step s = .next t)
    (hout : t.out = .response ⟨0#4, 0#32⟩ :: s.out) : t.Running t.cfg.reload.toNat 0 := by
  obtain ⟨cmds, u, hu, htu⟩ := step_of_performs hi h
  have hregs : t.tCtrl = u.tCtrl ∧ t.edge = u.edge ∧ t.tLoad = u.tLoad ∧ t.tCount = u.tCount ∧ t.cfg = u.cfg ∧
      t.out = u.out := by
    rcases htu with rfl | rfl <;> exact ⟨rfl, rfl, rfl, rfl, rfl, rfl⟩
  obtain ⟨hctrl, hedge, hload, hcount, hcfg, hout'⟩ := hregs
  obtain ⟨r, hr, rfl⟩ := exec_tinit_success hu (hout'.symm.trans hout)
  have hrunning : (((State.program { s.takeTurn with cmds := cmds } psel (BitVec.ofNat 23 r)).latch freq psel
      (BitVec.ofNat 23 r)).respond ⟨0#4, 0#32⟩).Running (BitVec.ofNat 23 r).toNat 0 :=
    ⟨rfl, (timerConfigured_of_checkReload hr).congr rfl rfl rfl, rfl, rfl, by simp⟩
  rw [hcfg]
  exact hrunning.congr hctrl hedge hload hcount

end Running

/-- Settles O22: from the TINIT on the timer runs, every tick of it is counted modulo R, and nothing but its expiries sets IRQ_PEND. -/
theorem periodLaw : Obligations.PeriodLaw := by
  intro s t freq psel n hi h hout halone
  have ht := running_of_tinit hi h hout
  obtain ⟨u, hu, hrun, hirq⟩ := ht.after_steps n halone
  rw [Nat.zero_add] at hrun hirq
  have hclear : State.Running { u with irqPend := false } t.cfg.reload.toNat (t.countTicks n) :=
    hrun.congr rfl rfl rfl rfl
  refine ⟨u, hu, hrun.count, ⟨_, hclear.timerTurn_eq, ?_⟩, fun hdisp => hirq hdisp t.irqPend ?_⟩
  · rw [State.count_irqPend, hclear.tCount_eq_one_iff]
    simp [hrun.edge]
  · have := ht.reload_pos
    simp [Nat.not_le.2 this]

end Sys2Proof.Machine
end

section
/-!
PROOFS. The dispatcher family: one run of the handler (R120 to R122) and the counting law (R123).
-/

namespace Sys2Proof.Machine

/-! ### One run of the handler (R121) -/

theorem cascade_sub_one_eq_zero {c : Half} : c - 1#16 = 0#16 ↔ c = 1#16 := by constructor <;> intro h <;> bv_omega

/-- What a run of the handler does, with the test of each counter on its value before the run. -/
theorem State.handler_eq_of_counters (s : State) :
    s.handler =
      { s with
        cascM := if s.cascM = 1#16 then s.par.mPeriod else s.cascM - 1#16
        cascS := if s.cascS = 1#16 then s.par.sPeriod else s.cascS - 1#16
        flags := ⟨true, s.flags.med || decide (s.cascM = 1#16), s.flags.slow || decide (s.cascS = 1#16)⟩ } := by
  rw [State.handler_eq]
  simp only [State.handler_cascM, State.handler_cascS, State.handler_flags, cascade_sub_one_eq_zero]

/-- Settles O23: TDISP is one run of the handler and its response. -/
theorem tdispRunsHandler : Obligations.TdispRunsHandler := by
  intro s
  have htdisp : exec .tdisp s = .next (s.handler.respond ⟨0#4, 0#32⟩) := rfl
  rw [htdisp, State.handler_eq_of_counters]
  rfl

/-- Settles O24: D.IRQ is the entry, which clears IRQ_PEND, and one run of the handler. -/
theorem interruptRunsHandler : Obligations.InterruptRunsHandler := by
  intro s hturn hirq
  have hstep : step s = .next s.takeTurn.enterInterrupt.handler := by
    rw [step, hturn]
    exact dispatcherTurn_eq_next.2 (.inl ⟨hirq, rfl⟩)
  rw [hstep, State.handler_eq_of_counters]
  rfl

/-! ### One cascade for every granularity (R121)

Every run is a fast tick, as of a counter whose value and period are 1; so the three flags obey one law. -/

/-- The counter of the cascade of granularity g. -/
def State.casc (s : State) : Gran → Half
  | .fast => 1#16
  | .med => s.cascM
  | .slow => s.cascS

/-- The period of the cascade of granularity g. -/
def State.period (s : State) : Gran → Half
  | .fast => 1#16
  | .med => s.par.mPeriod
  | .slow => s.par.sPeriod

theorem State.setsFlag_eq (s : State) (g : Gran) : s.setsFlag g = decide (s.casc g = 1#16) := by
  rw [State.setsFlag, State.handler_eq_of_counters]
  cases g <;> rfl

theorem State.handler_casc (s : State) (g : Gran) :
    s.handler.casc g = if s.casc g = 1#16 then s.period g else s.casc g - 1#16 := by
  rw [State.handler_eq_of_counters]
  cases g <;> rfl

@[simp] theorem State.handler_period (s : State) (g : Gran) : s.handler.period g = s.period g := by
  cases g <;> simp [State.period]

@[simp] theorem State.respond_casc (s : State) (r : Response) (g : Gran) : (s.respond r).casc g = s.casc g := by
  cases g <;> rfl

@[simp] theorem State.respond_period (s : State) (r : Response) (g : Gran) : (s.respond r).period g = s.period g := by
  cases g <;> rfl

theorem State.CascadesInRange.casc {s : State} (h : s.CascadesInRange) (g : Gran) :
    1 ≤ (s.casc g).toNat ∧ (s.casc g).toNat ≤ (s.period g).toNat := by
  obtain ⟨hM, hS⟩ := h
  cases g
  case fast => exact ⟨Nat.le_refl 1, Nat.le_refl 1⟩
  case med => exact hM
  case slow => exact hS

/-- A run of the handler sets flag g and reloads the counter when it is 1, and takes 1 off the counter otherwise. -/
theorem State.CascadesInRange.tick {s : State} (h : s.CascadesInRange) (g : Gran) :
    ((s.casc g).toNat = 1 ∧ s.setsFlag g = true ∧ s.handler.casc g = s.period g) ∨
      (1 < (s.casc g).toNat ∧ s.setsFlag g = false ∧ (s.handler.casc g).toNat + 1 = (s.casc g).toNat) := by
  obtain ⟨hpos, -⟩ := h.casc g
  rw [State.setsFlag_eq, State.handler_casc]
  by_cases hone : s.casc g = 1#16
  · exact .inl (by simp [hone])
  · refine .inr ⟨by bv_omega, by simp [hone], ?_⟩
    rw [if_neg hone]
    bv_omega

/-! ### The counting law (R123) -/

/-- n runs of the handler from counter c with period p set the flag (n + (p - c)) / p times. -/
theorem State.CascadesInRange.countSets {s : State} (h : s.CascadesInRange) (g : Gran) (n : Nat) :
    s.countSets g n = (n + ((s.period g).toNat - (s.casc g).toNat)) / (s.period g).toNat := by
  induction n generalizing s with
  | zero =>
    have := h.casc g
    exact (Nat.div_eq_of_lt (by omega)).symm
  | succ n ih =>
    have := h.casc g
    rw [State.countSets, ih h.handler, State.handler_period]
    rcases h.tick g with ⟨hone, hset, hnext⟩ | ⟨hmore, hset, hnext⟩
    · rw [hset, hnext, hone, Nat.sub_self, show n + 1 + ((s.period g).toNat - 1) = n + (s.period g).toNat by omega,
        Nat.add_div_right n (by omega)]
      exact Nat.add_comm 1 _
    · rw [hset, show n + 1 + ((s.period g).toNat - (s.casc g).toNat) =
        n + ((s.period g).toNat - (s.handler.casc g).toNat) by omega]
      exact Nat.zero_add _

/-- After the first run, the numbers c, c + p, c + 2 p, ... of a cascade with counter c and period p are those of the counter that the run leaves,
each moved on by one. -/
theorem State.CascadesInRange.reaches_succ_iff {s : State} (h : s.CascadesInRange) (g : Gran) (n : Nat) :
    (∃ k, n + 1 = (s.handler.casc g).toNat + k * (s.period g).toNat) ↔
      ∃ k, n + 1 + 1 = (s.casc g).toNat + k * (s.period g).toNat := by
  rcases h.tick g with ⟨hone, -, hnext⟩ | ⟨-, -, hnext⟩
  · rw [hone, hnext]
    constructor
    · rintro ⟨k, hk⟩
      exact ⟨k + 1, by rw [Nat.succ_mul]; omega⟩
    · rintro ⟨_ | k, hk⟩
      · omega
      · exact ⟨k, by rw [Nat.succ_mul] at hk; omega⟩
  · exact exists_congr fun k => by omega

/-- After n TDISP from counter c with period p, the next run sets the flag exactly when its number n + 1 is one of c, c + p, c + 2 p, ... -/
theorem State.CascadesInRange.setsFlag_after_tdisps {s : State} (h : s.CascadesInRange) (n : Nat) :
    ∃ t, execSeq (List.replicate n .tdisp) s = .next t ∧
      ∀ g, t.setsFlag g = true ↔ ∃ k, n + 1 = (s.casc g).toNat + k * (s.period g).toNat := by
  induction n generalizing s with
  | zero =>
    refine ⟨s, rfl, fun g => ?_⟩
    rcases h.tick g with ⟨hone, hset, -⟩ | ⟨hmore, hset, -⟩
    · exact iff_of_true hset ⟨0, by omega⟩
    · exact iff_of_false (by simp [hset]) (by rintro ⟨k, hk⟩; omega)
  | succ n ih =>
    obtain ⟨t, hrun, hsets⟩ := ih (h.handler.congr (t := s.handler.respond ⟨0#4, 0#32⟩) rfl rfl rfl)
    refine ⟨t, execSeq_cons rfl hrun, fun g => ?_⟩
    rw [hsets g, State.respond_casc, State.respond_period, State.handler_period]
    exact h.reaches_succ_iff g n

/-- Settles O25: the three flags are the cascades of period 1, M_PERIOD and S_PERIOD, and a counter at its period p sets its flag n / p times in
n runs. -/
theorem countingLaw : Obligations.CountingLaw := by
  refine ⟨fun s n hM hS hmed hslow => ?_, fun s n h => ?_⟩
  · have hrange : s.CascadesInRange := by
      rw [State.CascadesInRange, hM, hS]
      exact ⟨⟨by bv_omega, Nat.le_refl _⟩, ⟨by bv_omega, Nat.le_refl _⟩⟩
    have hcount : ∀ g, s.casc g = s.period g → s.countSets g n = n / (s.period g).toNat := fun g hg => by
      rw [hrange.countSets, hg, Nat.sub_self, Nat.add_zero]
    exact ⟨(hcount .fast rfl).trans (Nat.div_one n), hcount .med hM, hcount .slow hS⟩
  · obtain ⟨t, hrun, hsets⟩ := h.setsFlag_after_tdisps n
    exact ⟨t, hrun, by simp [State.setsFlag_eq, State.casc], hsets .med, hsets .slow⟩

end Sys2Proof.Machine
end

section
/-!
PROOFS. The scheduler family: one micro-step of RUN (R136 to R139), and the hand-off of a tick to its callback (R140).
-/

namespace Sys2Proof.Machine

/-! ### TAKE by its flag (R137, R138) -/

/-- What RUN does for granularity g besides RUNSEQ: with the flag set, the clearing, the sweep and the pulse; with the flag clear, nothing. -/
def State.serve (s : State) (g : Gran) : State :=
  { s with
    flags := s.flags.set g false
    vc := s.vc.set g (if s.flags.get g && s.par.decInSched then (s.vc.get g).map sweepSlot else s.vc.get g)
    out := (if s.flags.get g then [.strobe g] else []) ++ s.out }

/-- With the flag set TAKE serves g and enters its callback. -/
theorem State.take_of_set {s : State} {g : Gran} (hset : s.flags.get g = true) : s.take g = (s.serve g).setSeq (.cb g) 0 := by
  rw [State.take, if_pos hset, State.sweepIfEnabled_eq, State.serve, hset]
  cases hdec : s.par.decInSched <;> simp [State.clearFlag, State.pulse, hdec]

/-- With the flag clear TAKE leaves g. -/
theorem State.take_of_clear {s : State} {g : Gran} (hclear : s.flags.get g = false) : s.take g = s.leave g :=
  if_neg (by simp [hclear])

theorem State.serve_of_clear {s : State} {g : Gran} (hclear : s.flags.get g = false) : s.serve g = s := by
  have hflags : s.flags.set g false = s.flags := by rw [← hclear, Tri.set_get_self]
  simp [State.serve, hclear, hflags]

/-! ### Strobes and flags (R137, R140) -/

theorem State.strobes_of_out_eq {s t : State} (h : t.out = s.out) (g : Gran) : t.strobes g = s.strobes g := by
  rw [State.strobes, h, State.strobes]

/-- A response is no pulse. -/
theorem State.strobes_of_response {s t : State} {r : Response} (h : t.out = .response r :: s.out) (g : Gran) :
    t.strobes g = s.strobes g := by
  simp [State.strobes, h]

theorem State.strobes_pulse (s : State) (p g : Gran) : (s.pulse p).strobes g = s.strobes g + if g = p then 1 else 0 := by
  simp [State.strobes, List.count_cons, @eq_comm _ p]

/-- No command pulses a strobe (R139). -/
theorem exec_strobes {i : Instr} {s t : State} (h : exec i s = .next t) (g : Gran) : t.strobes g = s.strobes g := by
  rcases exec_answers h with (⟨f, -, rfl⟩ | ⟨d, hd⟩) | ⟨-, -, rfl⟩
  · exact State.strobes_of_response rfl g
  · exact State.strobes_of_response hd g
  · rfl

@[simp] theorem State.leave_strobes (s : State) (p g : Gran) : (s.leave p).strobes g = s.strobes g := by
  cases p with
  | fast | med => rfl
  | slow => exact State.strobes_of_response rfl g

/-- TAKE hands the tick off: what leaves the flag is a pulse (R137, R140). -/
theorem State.take_strobes_add_flag (s : State) (p g : Gran) :
    (s.take p).strobes g + ((s.take p).flags.get g).toNat = s.strobes g + (s.flags.get g).toNat := by
  cases hflag : s.flags.get p with
  | false =>
    rw [State.take_of_clear hflag, State.leave_strobes, State.leave_flags]
  | true =>
    have hpulse : (s.take p).strobes g = s.strobes g + if g = p then 1 else 0 := by
      rw [State.take_of_set hflag, State.serve, hflag]
      exact State.strobes_pulse s p g
    rw [hpulse, State.take_flags, Tri.get_set]
    by_cases hg : g = p <;> simp [hg, hflag]

/-- A step that is no TAKE pulses no strobe (R139). -/
theorem step_strobes_of_not_take {s t : State} (h : step s = .next t) (htake : ¬∃ p, s.nextTurn = .main ∧ s.seq.phase = .take p)
    (g : Gran) : t.strobes g = s.strobes g := by
  rcases step_cases h with ⟨-, ht⟩ | ⟨-, ht⟩ | ⟨hturn, ht⟩ | ⟨-, rfl⟩
  · rcases timerTurn_eq_next.1 ht with ⟨-, rfl⟩ | ⟨-, -, -, -, rfl⟩
    · rfl
    · exact State.strobes_of_out_eq (State.count_out _) g
  · rcases dispatcherTurn_eq_next.1 ht with ⟨-, rfl⟩ | ⟨-, rfl⟩
    · exact State.strobes_of_out_eq (State.handler_out _) g
    · rfl
  · rcases main_step_cases hturn ht with rfl | ⟨i, ws, u, -, hu, rfl | ⟨-, rfl⟩⟩ | ⟨f, ws, rfl⟩ | ⟨f, k, -, -, rfl⟩ |
      ⟨p, hp, rfl⟩ | ⟨k, -, -, rfl⟩
    · rfl
    · exact exec_strobes hu g
    · exact exec_strobes hu g
    · exact State.strobes_of_response rfl g
    · exact State.strobes_of_response (t := (s.takeTurn.respond (faultResponse f)).bumpPos) rfl g
    · exact absurd ⟨p, hturn, hp⟩ htake
    · exact State.leave_strobes _ _ g
  · rfl

/-! ### One micro-step of RUN (R136 to R139) -/

theorem step_of_take {s : State} {g : Gran} (hturn : s.nextTurn = .main) (hphase : s.seq.phase = .take g) :
    step s = .next (s.takeTurn.take g) :=
  (step_of_nextTurn_main hturn).trans (mainTurn_of_take (s := s.takeTurn) hphase)

/-- A TAKE performs no command, so it is no run of the handler. -/
theorem State.not_runsHandler_of_take {s : State} {p : Gran} (hturn : s.nextTurn = .main) (hphase : s.seq.phase = .take p) :
    ¬s.runsHandler := by
  rintro (⟨hdisp, -⟩ | hi)
  · exact absurd (hturn.symm.trans hdisp) nofun
  · simp [State.performs, State.nextWord, hturn, hphase] at hi

/-- Settles O32: a TAKE turns the flag into a pulse, and every other step pulses nothing and leaves the flags alone unless it runs the handler. -/
theorem strobesAccountForTicks : Obligations.StrobesAccountForTicks := by
  intro s t g h hreset
  by_cases htake : ∃ p, s.nextTurn = .main ∧ s.seq.phase = .take p
  · obtain ⟨p, hturn, hphase⟩ := htake
    cases (step_of_take hturn hphase).symm.trans h
    exact ⟨fun _ => State.take_strobes_add_flag s.takeTurn p g,
      fun hrun => absurd hrun (State.not_runsHandler_of_take hturn hphase)⟩
  · have hstrobes : t.strobes g = s.strobes g := step_strobes_of_not_take h htake g
    refine ⟨fun hnot => ?_, fun _ => hstrobes⟩
    rcases step_cascades_flags h hreset with ⟨-, -, hflags⟩ | ⟨hrun, -⟩ | ⟨p, hturn, hphase, -⟩
    · rw [hstrobes, hflags]
    · exact absurd hrun hnot
    · exact absurd ⟨p, hturn, hphase⟩ htake

/-- A word of a body is performed as at the host's port and answers once; no command in a body writes RUNSEQ, so the position moves on (R139). -/
theorem exists_mainTurn_of_body_word {s : State} {g : Gran} {w : Word64} (hphase : s.seq.phase = .cb g)
    (hw : (s.par.bodies.get g)[s.seq.pos]? = some w) :
    ∃ u r, perform w s = .next u ∧ mainTurn s = .next { u with seq := ⟨.cb g, s.seq.pos + 1⟩ } ∧ u.par = s.par ∧
      u.out = .response r :: s.out := by
  obtain ⟨u, hu⟩ := perform_next w s
  obtain ⟨hseq, hpar, r, hout⟩ := perform_while_busy (by rw [hphase]; nofun) hu
  refine ⟨u, r, hu, ?_, hpar, hout⟩
  calc mainTurn s = bumpAfter (perform w s) := mainTurn_of_body_word hphase hw
    _ = .next { u with seq := ⟨u.seq.phase, u.seq.pos + 1⟩ } := by rw [hu]; rfl
    _ = _ := by rw [hseq, hphase]

/-- Settles O7: the main context's turn performs the body's word, and the word decodes. -/
theorem stepPerformsBodyCommand : Obligations.StepPerformsBodyCommand := by
  intro s g w i hturn hphase hbody hw
  obtain ⟨t, -, ht, hmain, -⟩ := exists_mainTurn_of_body_word (s := s.takeTurn) hphase hbody
  exact ⟨t, (perform_of_decode_ok hw _).symm.trans ht, (step_of_nextTurn_main hturn).trans hmain⟩

/-- What leaving granularity g writes, in the words of phaseAfter (R136, R137). -/
theorem State.leave_eq_phaseAfter (s : State) (g : Gran) :
    s.leave g =
      { s with
        seq := ⟨phaseAfter g, 0⟩
        out := if g = .slow then .response ⟨0#4, 0#32⟩ :: s.out else s.out } := by
  cases g <;> rfl

/-- Settles O27: with the flag set TAKE is the clearing, the sweep, the pulse and the entry; with the flag clear it is the leaving of g. -/
theorem takeConsumesFlag : Obligations.TakeConsumesFlag := by
  intro s g hturn hphase
  rw [step_of_take hturn hphase]
  refine ⟨fun hset => ?_, fun hclear => ?_⟩
  · rw [State.take_of_set (s := s.takeTurn) hset]
    cases hdec : s.par.decInSched <;> simp [State.serve, State.setSeq, State.takeTurn, hset, hdec]
  · rw [State.take_of_clear (s := s.takeTurn) hclear, State.leave_eq_phaseAfter]
    rfl

/-- Settles O28: with no word left at the position, the main context's turn leaves g. -/
theorem callbackReturns : Obligations.CallbackReturns := by
  intro s g hturn hphase hend
  calc step s = mainTurn s.takeTurn := step_of_nextTurn_main hturn
    _ = .next (s.takeTurn.leave g) := mainTurn_of_body_end hphase (List.getElem?_eq_none hend)
    _ = _ := by rw [State.leave_eq_phaseAfter]; rfl

/-- Settles O26: RUN tests the phase, and a busy sequencer raises IllegalCommand 3. -/
theorem runIsAcceptedWhenIdle : Obligations.RunIsAcceptedWhenIdle := by
  intro s
  exact ⟨fun hidle => if_pos hidle, fun hbusy => if_neg hbusy⟩

end Sys2Proof.Machine
end

section
/-!
PROOFS. The scheduler family: a callback body to its end, a pass with empty bodies, and the end of every RUN (R135 to R139).
-/

namespace Sys2Proof.Machine

/-- Turns after turns that led to t are taken from t. -/
theorem turnSeq_append {l l' : List Turn} {s t : State} (h : turnSeq l s = .next t) : turnSeq (l ++ l') s = turnSeq l' t := by
  induction l generalizing s with
  | nil => cases h; rfl
  | cons a l ih =>
    simp only [turnSeq, chain, List.cons_append] at h ih ⊢
    cases ha : agentTurn a s with
    | next u => rw [ha] at h; exact ih h
    | fault f => rw [ha] at h; cases h
    | refused r => rw [ha] at h; cases h

theorem turnSeq_main_succ {s t : State} (h : mainTurn s = .next t) (n : Nat) :
    turnSeq (List.replicate (n + 1) .main) s = turnSeq (List.replicate n .main) t := turnSeq_cons h

theorem turnSeq_main_add {s t : State} {m : Nat} (h : turnSeq (List.replicate m .main) s = .next t) (n : Nat) :
    turnSeq (List.replicate (m + n) .main) s = turnSeq (List.replicate n .main) t := by
  rw [List.replicate_add, turnSeq_append h]

/-! ### A callback body (R139) -/

/-- From n words before its end, a body is performed in n turns and left in one more; each word adds a response, and the leaving adds RUN's after
the last granularity. -/
theorem turnSeq_of_body {s : State} {g : Gran} (n : Nat) (hphase : s.seq.phase = .cb g) (hpos : s.seq.pos + n = s.bodyLength g) :
    ∃ (t : State) (rs : List Response), turnSeq (List.replicate (n + 1) .main) s = .next t ∧ t.seq = ⟨phaseAfter g, 0⟩ ∧
      rs.length = n ∧ t.out = (if g = .slow then [.response ⟨0#4, 0#32⟩] else []) ++ rs.map .response ++ s.out := by
  induction n generalizing s with
  | zero =>
    have hend : (s.par.bodies.get g)[s.seq.pos]? = none := List.getElem?_eq_none hpos.ge
    refine ⟨s.leave g, [], turnSeq_main_succ (mainTurn_of_body_end hphase hend) 0, ?_, rfl, ?_⟩ <;> rw [State.leave_eq_phaseAfter]
    split <;> rfl
  | succ n ih =>
    have hlt : s.seq.pos < (s.par.bodies.get g).length := by rw [← State.bodyLength]; omega
    obtain ⟨u, r, -, hturn, hpar, hout⟩ := exists_mainTurn_of_body_word hphase (List.getElem?_eq_getElem hlt)
    have hpos_next : s.seq.pos + 1 + n = u.bodyLength g := by rw [State.bodyLength_congr hpar]; omega
    obtain ⟨t, rs, ht, hseq, hlen, hout_t⟩ := ih (s := { u with seq := ⟨.cb g, s.seq.pos + 1⟩ }) rfl hpos_next
    refine ⟨t, rs ++ [r], (turnSeq_main_succ hturn _).trans ht, hseq, by simp [hlen], ?_⟩
    simp [hout_t, hout]

/-- Settles O30: what is left of the body is its length less the position. -/
theorem callbackBodyCompletes : Obligations.CallbackBodyCompletes := fun _ _ hphase hpos =>
  turnSeq_of_body _ hphase (Nat.add_sub_cancel' hpos)

/-! ### A pass with empty bodies (R135 to R139) -/

/-- With an empty body, granularity g takes a TAKE and, if its flag is set, the callback's return (R137, R139). -/
theorem turnSeq_of_empty_body {s : State} {g : Gran} {b : Bool} (hphase : s.seq.phase = .take g)
    (hbody : s.par.bodies.get g = []) (hflag : s.flags.get g = b) :
    turnSeq (List.replicate (b.toNat + 1) .main) s = .next ((s.serve g).leave g) := by
  rw [turnSeq_main_succ (mainTurn_of_take hphase)]
  cases b with
  | false =>
    rw [State.take_of_clear hflag, State.serve_of_clear hflag]
    rfl
  | true =>
    have hend : mainTurn ((s.serve g).setSeq (.cb g) 0) = .next (((s.serve g).setSeq (.cb g) 0).leave g) :=
      mainTurn_of_body_end rfl (List.getElem?_eq_none (by simp [State.serve, hbody]))
    rw [State.take_of_set hflag, Bool.toNat_true, turnSeq_main_succ hend, State.leave_eq_phaseAfter, State.leave_eq_phaseAfter]
    rfl

/-- Settles O29: each granularity takes one turn, and one more with its flag set; the pass serves and leaves the three one after the other. -/
theorem runPassWithEmptyBodies : Obligations.RunPassWithEmptyBodies := by
  intro s hseq hbodies
  have hempty : ∀ g, s.par.bodies.get g = [] := fun g => by rw [hbodies, Tri.get_const]
  have hfast := turnSeq_of_empty_body (g := .fast) (by rw [hseq]) (hempty .fast) (rfl : _ = s.flags.fast)
  have hmed := turnSeq_of_empty_body (s := (s.serve .fast).leave .fast) (g := .med) rfl (hempty .med)
    (rfl : _ = s.flags.med)
  have hslow := turnSeq_of_empty_body (s := (((s.serve .fast).leave .fast).serve .med).leave .med) (g := .slow) rfl
    (hempty .slow) (rfl : _ = s.flags.slow)
  have hcount : 3 + (s.flags.fast.toNat + s.flags.med.toNat + s.flags.slow.toNat) =
      (s.flags.fast.toNat + 1) + ((s.flags.med.toNat + 1) + (s.flags.slow.toNat + 1)) := by omega
  rw [hcount, turnSeq_main_add hfast, turnSeq_main_add hmed, hslow]
  simp only [List.append_assoc]
  rfl

/-! ### Every RUN ends (R136) -/

/-- Settles O31: a RUN takes at most the turns that are left of it, which at its acceptance are two per granularity and one per word of the bodies. -/
theorem everyRunCompletes : Obligations.EveryRunCompletes := by
  intro s hseq
  have hphase : s.seq.phase = .take .fast := by rw [hseq]
  obtain ⟨n, t, hn, hrun⟩ := State.exists_runEndsWith (s := s) (by rw [hphase]; nofun)
  refine ⟨n, t, hn.trans_eq ?_, hrun⟩
  rw [State.turnsLeft_of_take hphase]
  simp only [State.turnsAfter, State.bodyLength, Tri.get]
  omega

end Sys2Proof.Machine
end

section
/-!
PROOFS. The counters family: the slot commands (R152 to R158), what a sweep does to one slot (R155, R160), and the countdown laws (R159).
-/

namespace Sys2Proof.Machine

/-! ### Reading a slot (R31, R58) -/

@[simp] theorem State.slotAt_respond (s : State) (r : Response) (p : Gran) (i : Nat) :
    (s.respond r).slotAt p i = s.slotAt p i := rfl

theorem State.slotAt_of_vc {s t : State} (h : t.vc = s.vc) (p : Gran) (i : Nat) : t.slotAt p i = s.slotAt p i := by
  rw [State.slotAt, State.slotAt, h]

/-- A VARM of another slot leaves the slot alone (R154). -/
theorem State.slotAt_setSlot_of_varm_ne (s : State) {p q : Gran} {index j ticks : Half}
    (h : Instr.varm (selOf q) j ticks ≠ .varm (selOf p) index ticks) (x : Slot) :
    (s.setSlot q j.toNat x).slotAt p index.toNat = s.slotAt p index.toNat := by
  refine s.slotAt_setSlot_of_ne q p _ _ x ?_
  rintro ⟨rfl, hindex⟩
  exact h (by rw [BitVec.eq_of_toNat_eq hindex])

/-- A slot as VQRY answers it: armed in bit 16, value below, 0 above (R158). -/
theorem toNat_slotWord (x : Slot) : (slotWord x).toNat = x.armed.toNat * 65536 + x.value.toNat := by
  have hvalue : x.value.toNat < 2 ^ 16 := x.value.isLt
  rw [slotWord, BitVec.toNat_append, ← Nat.shiftLeft_add_eq_or_of_lt hvalue, Nat.shiftLeft_eq]
  cases x.armed <;> rfl

/-! ### The checks of a slot address (R153) -/

theorem checkSlot_reserved (s : State) (index : Half) : checkSlot s 3#2 index = .error .poolReserved := rfl

theorem checkSlot_of_lt {s : State} {p : Gran} {index : Half} (h : index.toNat < s.cap p) :
    checkSlot s (selOf p) index = .ok p :=
  checkSlot_eq_ok.2 ⟨rfl, h⟩

theorem checkSlot_of_le {s : State} {p : Gran} {index : Half} (h : s.cap p ≤ index.toNat) :
    checkSlot s (selOf p) index = .error .indexOutOfRange := by
  simp only [checkSlot, checkPool_selOf, h, if_true]

/-! ### The slot commands by their checks (R154, R156, R158) -/

theorem exec_varm_of_lt {s : State} {p : Gran} {index : Half} (h : index.toNat < s.cap p) (ticks : Half) :
    exec (.varm (selOf p) index ticks) s = .next ((s.setSlot p index.toNat ⟨ticks, true⟩).respond ⟨0#4, 0#32⟩) := by
  simp only [exec, execVarm, checkSlot_of_lt h]
  rfl

theorem exec_varm_of_error {s : State} {sel : Sel} {index : Half} {f : CmdFault} (h : checkSlot s sel index = .error f)
    (ticks : Half) : exec (.varm sel index ticks) s = .next (s.respond (faultResponse f)) := by
  simp only [exec, execVarm, h]
  rfl

theorem exec_vqry_of_lt {s : State} {p : Gran} {index : Half} (h : index.toNat < s.cap p) :
    exec (.vqry (selOf p) index) s = .next (s.respond ⟨0#4, slotWord (s.slotAt p index.toNat)⟩) := by
  simp only [exec, execVqry, checkSlot_of_lt h]
  rfl

theorem exec_vqry_of_error {s : State} {sel : Sel} {index : Half} {f : CmdFault} (h : checkSlot s sel index = .error f) :
    exec (.vqry sel index) s = .next (s.respond (faultResponse f)) := by
  simp only [exec, execVqry, h]
  rfl

theorem exec_vdec_selOf (s : State) (p : Gran) :
    exec (.vdec (selOf p)) s = .next ((s.sweep p).respond ⟨0#4, 0#32⟩) := by
  simp only [exec, execVdec, checkPool_selOf]
  rfl

/-- Settles O33: initialising a pool replaces it by as many initial slots. -/
theorem vinitMakesSlotsInitial : Obligations.VinitMakesSlotsInitial := by
  intro s
  have hpools : s.vc.map initPool =
      ⟨List.replicate (s.cap .fast) ⟨1#16, false⟩, List.replicate (s.cap .med) ⟨1#16, false⟩,
        List.replicate (s.cap .slow) ⟨1#16, false⟩⟩ := by
    simp only [Tri.map, initPool_eq_replicate]
    rfl
  rw [← hpools]
  rfl

/-- Settles O34: the check passes, and VARM replaces the one slot and responds. -/
theorem varmArmsOneSlot : Obligations.VarmArmsOneSlot := by
  intro s p index ticks hlt
  exact ⟨_, exec_varm_of_lt hlt ticks, State.slotAt_setSlot_same _ hlt,
    fun q j hne => s.slotAt_setSlot_of_ne p q _ j _ hne, fun q => s.cap_setSlot p q _ _, rfl⟩

/-- Settles O35: the selector is checked before the index, and a failed check answers its fault. -/
theorem slotAddressChecks : Obligations.SlotAddressChecks := by
  intro s index ticks
  refine ⟨⟨exec_varm_of_error (checkSlot_reserved s index) ticks, exec_vqry_of_error (checkSlot_reserved s index), rfl⟩,
    fun p hle => ?_⟩
  exact ⟨exec_varm_of_error (checkSlot_of_le hle) ticks, exec_vqry_of_error (checkSlot_of_le hle)⟩

/-- Settles O37: the check passes, and the response holds the slot's word. -/
theorem vqryReturnsSlot : Obligations.VqryReturnsSlot := fun _ _ _ hlt =>
  ⟨_, exec_vqry_of_lt hlt, toNat_slotWord _⟩

/-! ### One sweep of one slot (R155, R160) -/

theorem sweepSlot_of_unarmed {x : Slot} (h : x.armed = false) : sweepSlot x = x := by simp [sweepSlot, h]

/-- An armed slot expires at a sweep that finds it at 0 or 1, and counts down otherwise. -/
theorem sweepSlot_armed (v : Half) :
    sweepSlot ⟨v, true⟩ = if v.toNat ≤ 1 then ⟨0#16, false⟩ else ⟨v - 1#16, true⟩ := by
  have hlast : (v = 0#16 ∨ v - 1#16 = 0#16) ↔ v.toNat ≤ 1 := by
    constructor
    · rintro (h | h) <;> bv_omega
    · intro h
      have : v.toNat = 0 ∨ v.toNat = 1 := by omega
      rcases this with h | h
      · exact .inl (by bv_omega)
      · exact .inr (by bv_omega)
  simp only [sweepSlot, if_true, hlast]

/-- A sweep takes 1 off the value of an armed slot, but not off 0, and leaves it armed when the value was 2 or more. -/
theorem sweepSlot_eq (x : Slot) :
    sweepSlot x =
      if x.armed = true then ⟨if x.value = 0#16 then 0#16 else x.value - 1#16, decide (2 ≤ x.value.toNat)⟩ else x := by
  obtain ⟨v, armed⟩ := x
  cases armed with
  | false => exact sweepSlot_of_unarmed rfl
  | true =>
    rw [sweepSlot_armed]
    by_cases hlast : v.toNat ≤ 1
    · have hzero : (if v = 0#16 then 0#16 else v - 1#16) = 0#16 := by split <;> bv_omega
      simp [hlast, hzero, show ¬2 ≤ v.toNat by omega]
    · have hne : v ≠ 0#16 := by rintro rfl; simp at hlast
      simp [hlast, hne, show 2 ≤ v.toNat by omega]

/-- Settles O36: VDEC sweeps each slot of its pool. -/
theorem vdecSweepsOnePool : Obligations.VdecSweepsOnePool := by
  intro s p
  refine ⟨_, exec_vdec_selOf s p, fun q j => ?_, fun q => s.cap_sweep p q, rfl⟩
  rw [State.slotAt_respond, State.slotAt_sweep, sweepSlot_eq, ite_and]

/-! ### k sweeps of one slot (R159) -/

/-- A slot armed with T holds T - k after k sweeps, and is expired from the T-th on. -/
theorem iterate_sweepSlot {T : Half} (hT : 1 ≤ T.toNat) (k : Nat) :
    sweepSlot^[k] ⟨T, true⟩ = if k < T.toNat then ⟨BitVec.ofNat 16 (T.toNat - k), true⟩ else ⟨0#16, false⟩ := by
  induction k with
  | zero => simp [show 0 < T.toNat from hT]
  | succ k ih =>
    rw [Function.iterate_succ_apply', ih]
    by_cases hk : k < T.toNat
    · have hvalue : (BitVec.ofNat 16 (T.toNat - k)).toNat = T.toNat - k := by
        rw [BitVec.toNat_ofNat]; omega
      have hless : BitVec.ofNat 16 (T.toNat - k) - 1#16 = BitVec.ofNat 16 (T.toNat - (k + 1)) := by bv_omega
      rw [if_pos hk, sweepSlot_armed, hvalue]
      by_cases hnext : k + 1 < T.toNat
      · rw [if_neg (by omega), if_pos hnext, hless]
      · rw [if_pos (by omega), if_neg hnext]
    · rw [if_neg hk, if_neg (by omega), sweepSlot_of_unarmed rfl]

/-! ### The countdown by commands (R154, R155, R159) -/

/-- A command that neither initialises nor arms a slot sweeps it if it is VDEC of its pool, and leaves it alone otherwise. -/
theorem exec_slotAt {i : Instr} {s t : State} {p : Gran} {index : Half} (h : exec i s = .next t) (hvinit : i ≠ .vinit)
    (hvarm : ∀ x, i ≠ .varm (selOf p) index x) :
    t.slotAt p index.toNat =
      if i = .vdec (selOf p) then sweepSlot (s.slotAt p index.toNat) else s.slotAt p index.toNat := by
  by_cases hvdec : i = .vdec (selOf p)
  · subst hvdec
    cases (exec_vdec_selOf s p).symm.trans h
    simp [State.slotAt_sweep]
  · rw [if_neg hvdec]
    rcases exec_vc h with hvc | ⟨hi, -⟩ | ⟨q, hi, hvc⟩ | ⟨q, j, x, hi, hvc⟩
    · exact State.slotAt_of_vc hvc p _
    · exact absurd hi hvinit
    · have hpq : p ≠ q := fun e => hvdec (e ▸ hi)
      rw [State.slotAt_of_vc hvc, State.slotAt_sweep, if_neg hpq]
    · rw [State.slotAt_of_vc hvc]
      exact s.slotAt_setSlot_of_varm_ne (fun e => hvarm x (hi.trans e)) _

/-- Commands that neither initialise nor arm a slot sweep it once per VDEC of its pool. -/
theorem execSeq_slotAt {p : Gran} {index : Half} (l : List Instr) (s : State)
    (hl : ∀ c ∈ l, c ≠ .vinit ∧ ∀ x, c ≠ .varm (selOf p) index x) :
    ∃ t, execSeq l s = .next t ∧
      t.slotAt p index.toNat = sweepSlot^[l.count (.vdec (selOf p))] (s.slotAt p index.toNat) := by
  induction l generalizing s with
  | nil => exact ⟨s, rfl, rfl⟩
  | cons c l ih =>
    obtain ⟨⟨hvinit, hvarm⟩, hrest⟩ := List.forall_mem_cons.1 hl
    obtain ⟨t, ht⟩ := exec_next c s
    obtain ⟨u, hu, hslot⟩ := ih t hrest
    refine ⟨u, execSeq_cons ht hu, ?_⟩
    rw [hslot, exec_slotAt ht hvinit hvarm]
    by_cases hc : c = .vdec (selOf p)
    · rw [if_pos hc, hc, List.count_cons_self, Function.iterate_succ_apply]
    · rw [if_neg hc, List.count_cons_of_ne hc]

/-- Settles O38: VARM leaves the slot armed with T, and each VDEC of the pool sweeps it. -/
theorem countdownOfCommands : Obligations.CountdownOfCommands := by
  intro s p index T l hlt hT hl
  obtain ⟨t, ht, hslot⟩ := execSeq_slotAt l ((s.setSlot p index.toNat ⟨T, true⟩).respond ⟨0#4, 0#32⟩) hl
  refine ⟨t, execSeq_cons (exec_varm_of_lt hlt T) ht, ?_⟩
  rw [hslot, State.slotAt_respond, State.slotAt_setSlot_same _ hlt, iterate_sweepSlot hT]

/-! ### The countdown by steps of any agents (R138, R159) -/

/-- A step that performs a command leaves the pools as the command does. -/
theorem step_vc_of_performs {i : Instr} {s t : State} (hi : s.performs = some i) (h : step s = .next t) :
    ∃ cmds u, exec i { s.takeTurn with cmds := cmds } = .next u ∧ t.vc = u.vc := by
  obtain ⟨cmds, u, hu, rfl | rfl⟩ := step_of_performs hi h
  · exact ⟨cmds, t, hu, rfl⟩
  · exact ⟨cmds, u, hu, rfl⟩

/-- A step that sweeps a pool does so by VDEC or by the TAKE that consumes its tick (R138, R156). -/
theorem step_vc_of_sweepsPool {s t : State} {p : Gran} (hsweep : s.sweepsPool p = true) (h : step s = .next t) :
    t.vc = (s.sweep p).vc := by
  simp only [State.sweepsPool, Bool.or_eq_true, Bool.and_eq_true, beq_iff_eq] at hsweep
  rcases hsweep with hi | ⟨⟨⟨hturn, hphase⟩, hflag⟩, hdec⟩
  · obtain ⟨cmds, u, hu, hvc⟩ := step_vc_of_performs hi h
    cases (exec_vdec_selOf _ p).symm.trans hu
    exact hvc
  · cases (step_of_take hturn hphase).symm.trans h
    rw [State.take_vc, if_pos ⟨hflag, hdec⟩]
    rfl

theorem step_slotAt_of_sweepsPool {s t : State} {p : Gran} (hsweep : s.sweepsPool p = true) (h : step s = .next t)
    (i : Nat) : t.slotAt p i = sweepSlot (s.slotAt p i) := by
  rw [State.slotAt_of_vc (step_vc_of_sweepsPool hsweep h), State.slotAt_sweep, if_pos rfl]

/-- A step that neither sweeps a slot's pool nor rewrites the slot leaves it alone. -/
theorem step_slotAt_of_not_sweepsPool {s t : State} {p : Gran} {index : Half} (hsweep : s.sweepsPool p = false)
    (hkeep : ¬s.rewritesSlot p index) (h : step s = .next t) : t.slotAt p index.toNat = s.slotAt p index.toNat := by
  simp only [State.rewritesSlot, not_or, not_exists] at hkeep
  obtain ⟨hreset, hvinit, hvarm⟩ := hkeep
  rcases step_vc h with hvc | ⟨hturn | hi, -⟩ | ⟨q, hq, hvc⟩ | ⟨q, j, x, hi, hvc⟩
  · exact State.slotAt_of_vc hvc p _
  · exact absurd hturn hreset
  · exact absurd hi hvinit
  · have hpq : p ≠ q := by
      rintro rfl
      exact Bool.false_ne_true (hsweep.symm.trans hq)
    rw [State.slotAt_of_vc hvc, State.slotAt_sweep, if_neg hpq]
  · rw [State.slotAt_of_vc hvc]
    exact s.slotAt_setSlot_of_varm_ne (fun e => hvarm x (e ▸ hi)) _

/-- Steps that do not rewrite a slot sweep it as often as they sweep its pool. -/
theorem runFor_slotAt {p : Gran} {index : Half} (n : Nat) {s u : State}
    (hkeep : ∀ k < n, ∀ v, runFor k s = .next v → ¬v.rewritesSlot p index) (h : runFor n s = .next u) :
    u.slotAt p index.toNat = sweepSlot^[s.countSweeps p n] (s.slotAt p index.toNat) := by
  induction n generalizing s with
  | zero => cases h; rfl
  | succ n ih =>
    cases ht : step s with
    | fault r => cases r
    | refused r => simp [runFor, ht] at h
    | next t =>
      have hrest : ∀ k < n, ∀ v, runFor k t = .next v → ¬v.rewritesSlot p index :=
        fun k hk v hv => hkeep (k + 1) (by omega) v (runFor_succ ht k ▸ hv)
      have hcount : s.countSweeps p (n + 1) = (s.sweepsPool p).toNat + t.countSweeps p n := State.countSteps_succ ht n
      rw [hcount, Nat.add_comm, Function.iterate_add_apply, ih hrest (runFor_succ ht n ▸ h)]
      congr 1
      cases hsweep : s.sweepsPool p with
      | true => exact step_slotAt_of_sweepsPool hsweep ht _
      | false => exact step_slotAt_of_not_sweepsPool hsweep (hkeep 0 (Nat.succ_pos n) s rfl) ht

/-- A step that performs VARM of a slot that exists arms it (R154). -/
theorem step_slotAt_of_varm {s t : State} {p : Gran} {index ticks : Half} (hlt : index.toNat < s.cap p)
    (hi : s.performs = some (.varm (selOf p) index ticks)) (h : step s = .next t) :
    t.slotAt p index.toNat = ⟨ticks, true⟩ := by
  obtain ⟨cmds, u, hu, hvc⟩ := step_vc_of_performs hi h
  have hlt' : index.toNat < ({ s.takeTurn with cmds := cmds } : State).cap p := hlt
  cases (exec_varm_of_lt hlt' ticks).symm.trans hu
  rw [State.slotAt_of_vc hvc, State.slotAt_respond, State.slotAt_setSlot_same _ hlt']

/-- Settles O39: the first step leaves the slot armed with T, and each later step sweeps it or leaves it alone. -/
theorem countdownLaw : Obligations.CountdownLaw := by
  intro s t u p index T n hlt hT hi ht hkeep hu
  rw [runFor_slotAt n hkeep hu, step_slotAt_of_varm hlt hi ht, iterate_sweepSlot hT]

/-! ### A slot armed with 0 (R160) -/

/-- VARM of a slot that exists, and then VDEC of its pool, leaves the slot as one sweep leaves it armed. -/
theorem exec_varm_vdec {s : State} {p : Gran} {index : Half} (hlt : index.toNat < s.cap p) (ticks : Half) :
    ∃ t u, exec (.varm (selOf p) index ticks) s = .next t ∧ t.slotAt p index.toNat = ⟨ticks, true⟩ ∧
      exec (.vdec (selOf p)) t = .next u ∧ u.slotAt p index.toNat = sweepSlot ⟨ticks, true⟩ := by
  have harmed := State.slotAt_setSlot_same ⟨ticks, true⟩ hlt
  refine ⟨_, _, exec_varm_of_lt hlt ticks, harmed, exec_vdec_selOf _ p, ?_⟩
  rw [State.slotAt_respond, State.slotAt_sweep, if_pos rfl, State.slotAt_respond, harmed]

/-- A sweep of a slot armed with 0 does what it does to one armed with 1 (R160). -/
theorem sweepSlot_of_le_one {v : Half} (h : v.toNat ≤ 1) : sweepSlot ⟨v, true⟩ = ⟨0#16, false⟩ := by
  rw [sweepSlot_armed, if_pos h]

/-- Settles O40: a sweep leaves a slot armed with 0 and a slot armed with 1 alike. -/
theorem armedWithZeroExpiresAtFirstSweep : Obligations.ArmedWithZeroExpiresAtFirstSweep := by
  have hzero : sweepSlot ⟨0#16, true⟩ = ⟨0#16, false⟩ := sweepSlot_of_le_one (by decide)
  have hone : sweepSlot ⟨1#16, true⟩ = ⟨0#16, false⟩ := sweepSlot_of_le_one (by decide)
  refine ⟨fun s p index hlt => ?_, fun s t p i _ hsweep harmed h => ?_⟩
  · obtain ⟨t, u, ht, harmed, hu, hexpired⟩ := exec_varm_vdec hlt 0#16
    obtain ⟨t', v, ht', -, hv, hexpired'⟩ := exec_varm_vdec hlt 1#16
    have hseq : execSeq [.varm (selOf p) index 1#16, .vdec (selOf p)] s = .next v := execSeq_cons ht' (execSeq_cons hv rfl)
    refine ⟨t, u, v, ht, harmed, hu, hexpired.trans hzero, hseq, ?_⟩
    rw [hexpired', hexpired, hone, hzero]
  · rw [step_slotAt_of_sweepsPool hsweep h]
    rcases harmed with harmed | harmed <;> rw [harmed]
    · exact hzero
    · exact hone

end Sys2Proof.Machine
end

section
/-!
PROOFS. The register field family: the mask and the value of a field (R171, R172), the checks in their order (R173), and a field that is
written and read back (R175).
-/

namespace Sys2Proof.Machine

/-! ### The mask of a field (R171) -/

/-- Settles O45: a field inside the register has its product below 2^32, and its ones are those of 2^wid - 1 moved up by boff. -/
theorem fieldMaskCoversField : Obligations.FieldMaskCoversField := by
  intro boff wid _ _ hinside
  refine ⟨?_, fun k => ?_⟩
  · rw [fieldMask, BitVec.toNat_ofNat, Nat.mod_eq_of_lt]
    calc (2 ^ wid - 1) * 2 ^ boff < 2 ^ wid * 2 ^ boff :=
          Nat.mul_lt_mul_of_pos_right (Nat.sub_one_lt (by positivity)) (by positivity)
      _ = 2 ^ (wid + boff) := (pow_add 2 wid boff).symm
      _ ≤ 2 ^ 32 := Nat.pow_le_pow_right (by decide) (by omega)
  · rw [getLsbD_fieldMask, decide_eq_decide]
    omega

/-! ### RDF (R172) -/

theorem getLsbD_fieldGet (v : Word32) (boff wid : Nat) {k : Nat} (hk : k < 32) :
    (fieldGet v boff wid).getLsbD k = (decide (k < wid) && v.getLsbD (boff + k)) := by
  rw [fieldGet, BitVec.getLsbD_ofNat, Nat.testBit_mod_two_pow, Nat.testBit_div_two_pow, BitVec.testBit_toNat, decide_eq_true hk,
    Bool.true_and, Nat.add_comm]

theorem exec_rdf_of_fieldInside (s : State) (r : Reg) {boff wid : Byte} (hf : FieldInside boff wid) :
    exec (.rdf (offsetOf r) boff wid) s = .next (s.respond ⟨0#4, fieldGet (s.readReg r) boff.toNat wid.toNat⟩) := by
  have hcheck : checkField (offsetOf r) boff wid false = .ok r := checkField_eq_ok.2 ⟨rfl, nofun, hf⟩
  simp only [exec, execRdf, hcheck]
  rfl

/-- Settles O42: the check passes, and the response holds the register's word without its low boff bits, cut to wid bits. -/
theorem rdfReturnsField : Obligations.RdfReturnsField := fun s r _ _ hf =>
  ⟨_, exec_rdf_of_fieldInside s r hf, fun _ hk => getLsbD_fieldGet _ _ _ hk⟩

/-! ### The checks of RDF and WRF (R173) -/

theorem exec_rdf_of_error {s : State} {off boff wid : Byte} {f : CmdFault} (h : checkField off boff wid false = .error f) :
    exec (.rdf off boff wid) s = .next (s.respond (faultResponse f)) := by
  simp only [exec, execRdf, h]
  rfl

theorem exec_wrf_of_error {s : State} {off boff wid : Byte} {f : CmdFault} (h : checkField off boff wid true = .error f)
    (val : Word32) : exec (.wrf off boff val wid) s = .next (s.respond (faultResponse f)) := by
  simp only [exec, execWrf, h]
  rfl

theorem low_bits_eq_zero_iff {off : Byte} : off.extractLsb' 0 2 = 0#2 ↔ off.toNat % 4 = 0 := by
  simp [← BitVec.toNat_inj]

theorem regAt_of_misaligned {off : Byte} (h : off.toNat % 4 ≠ 0) : regAt off = .error .misaligned := by
  rw [regAt, if_pos (low_bits_eq_zero_iff.not.2 h)]

theorem mem_offsets {off : Byte} : off.toNat ∈ [0x00, 0x04, 0x08, 0x10] ↔ ∃ r, off = offsetOf r := by
  constructor
  · intro h
    have hoff : off = 0x00#8 ∨ off = 0x04#8 ∨ off = 0x08#8 ∨ off = 0x10#8 := by
      simpa [← BitVec.toNat_inj] using h
    obtain rfl | rfl | rfl | rfl := hoff
    exacts [⟨.tLoad, rfl⟩, ⟨.tCount, rfl⟩, ⟨.tCtrl, rfl⟩, ⟨.tIntType, rfl⟩]
  · rintro ⟨r, rfl⟩
    cases r <;> decide

theorem exists_writable_of_mem {off : Byte} (h : off.toNat ∈ [0x00, 0x08, 0x10]) : ∃ r, off = offsetOf r ∧ r ≠ .tCount := by
  obtain ⟨r, rfl⟩ := mem_offsets.1 (List.mem_cons.2 ((List.mem_cons.1 h).imp_right (List.mem_cons_of_mem _)))
  exact ⟨r, rfl, by rintro rfl; exact absurd h (by decide)⟩

theorem regAt_of_unmapped {off : Byte} (haligned : off.toNat % 4 = 0) (h : off.toNat ∉ [0x00, 0x04, 0x08, 0x10]) :
    regAt off = .error .unmapped := by
  have hne : ∀ r, off ≠ offsetOf r := fun r hr => h (mem_offsets.2 ⟨r, hr⟩)
  rw [regAt, if_neg (not_not_intro (low_bits_eq_zero_iff.2 haligned))]
  exact (if_neg (hne .tLoad)).trans <| (if_neg (hne .tCount)).trans <| (if_neg (hne .tCtrl)).trans (if_neg (hne .tIntType))

theorem checkField_of_regAt_error {off boff wid : Byte} {f : CmdFault} (h : regAt off = .error f) (write : Bool) :
    checkField off boff wid write = .error f := by
  rw [checkField, h]

/-- At a register that may be accessed, only the checks of the field are left (R173). -/
theorem checkField_offsetOf {r : Reg} {write : Bool} (h : ¬(write = true ∧ r = .tCount)) (boff wid : Byte) :
    checkField (offsetOf r) boff wid write = checkWidth boff wid r := by
  simp only [checkField, regAt_offsetOf, if_neg h]

/-- The fault f that the field checks find is the answer of RDF at every register and of WRF at every writable one (R173). -/
theorem exec_of_checkWidth_error (s : State) {boff wid : Byte} {f : CmdFault} (h : ∀ r, checkWidth boff wid r = .error f)
    (off : Byte) (val : Word32) :
    (off.toNat ∈ [0x00, 0x04, 0x08, 0x10] → exec (.rdf off boff wid) s = .next (s.respond (faultResponse f))) ∧
      (off.toNat ∈ [0x00, 0x08, 0x10] → exec (.wrf off boff val wid) s = .next (s.respond (faultResponse f))) := by
  constructor <;> intro hoff
  · obtain ⟨r, rfl⟩ := mem_offsets.1 hoff
    exact exec_rdf_of_error ((checkField_offsetOf (by simp) boff wid).trans (h r))
  · obtain ⟨r, rfl, hr⟩ := exists_writable_of_mem hoff
    exact exec_wrf_of_error ((checkField_offsetOf (fun hro => hr hro.2) boff wid).trans (h r)) val

/-- Settles O43: the alignment, the map, T_COUNT's read-only check, the width and the position, each where those before it pass. -/
theorem fieldChecksInOrder : Obligations.FieldChecksInOrder := by
  intro s off boff wid val
  refine ⟨fun hoff => ?misaligned, fun haligned hoff => ?unmapped, fun hoff => ?readOnly, fun hwid => ?width,
    fun hpos hle hout => ?outside⟩
  case misaligned =>
    have hcheck := checkField_of_regAt_error (boff := boff) (wid := wid) (regAt_of_misaligned hoff)
    exact ⟨exec_rdf_of_error (hcheck false), exec_wrf_of_error (hcheck true) val⟩
  case unmapped =>
    have hcheck := checkField_of_regAt_error (boff := boff) (wid := wid) (regAt_of_unmapped haligned hoff)
    exact ⟨exec_rdf_of_error (hcheck false), exec_wrf_of_error (hcheck true) val⟩
  case readOnly =>
    obtain rfl : off = offsetOf .tCount := BitVec.eq_of_toNat_eq hoff
    exact exec_wrf_of_error (f := .readOnly) rfl val
  case width =>
    exact exec_of_checkWidth_error s (f := .badWidth) (fun r => by rw [checkWidth, if_pos hwid]) off val
  case outside =>
    exact exec_of_checkWidth_error s (f := .fieldOutside)
      (fun r => by rw [checkWidth, if_neg (by omega), if_pos hout]) off val

/-! ### A field written and read back (R175) -/

theorem State.readReg_handler (s : State) (r : Reg) : s.handler.readReg r = s.readReg r := by cases r <;> simp [State.readReg]

/-- A tick writes T_COUNT alone of the window (R108). -/
theorem State.readReg_count (s : State) {r : Reg} (hr : r ≠ .tCount) : s.count.readReg r = s.readReg r := by
  cases r <;> simp_all [State.readReg]

theorem readReg_after_timer_or_dispatcher {a : Turn} {s t : State} {r : Reg} (ha : a = .timer ∨ a = .dispatcher) (hr : r ≠ .tCount)
    (h : agentTurn a s = .next t) : t.readReg r = s.readReg r := by
  obtain rfl | rfl := ha
  · obtain ⟨-, rfl⟩ | ⟨-, -, -, -, rfl⟩ := timerTurn_eq_next.1 h
    · rfl
    · exact s.readReg_count hr
  · obtain ⟨-, rfl⟩ | ⟨-, rfl⟩ := dispatcherTurn_eq_next.1 h
    · exact s.enterInterrupt.readReg_handler r
    · rfl

/-- Ticks and dispatcher turns leave every register but T_COUNT as it was (R175). -/
theorem readReg_after_turns {l : List Turn} {s t : State} {r : Reg} (hl : ∀ a ∈ l, a = .timer ∨ a = .dispatcher) (hr : r ≠ .tCount)
    (h : turnSeq l s = .next t) : t.readReg r = s.readReg r := by
  induction l generalizing s with
  | nil => cases h; rfl
  | cons a l ih =>
    obtain ⟨ha, hl⟩ := List.forall_mem_cons.1 hl
    cases hturn : agentTurn a s with
    | next u =>
      rw [turnSeq_cons hturn] at h
      exact (ih hl h).trans (readReg_after_timer_or_dispatcher ha hr hturn)
    | fault f => simp [turnSeq, chain, hturn] at h
    | refused f => simp [turnSeq, chain, hturn] at h

/-- Settles O46: RDF reads the bits that WRF left, since the turns between leave the register alone. -/
theorem fieldRoundTrip : Obligations.FieldRoundTrip := by
  intro s t u r boff wid v l hr hf hv hwrf hl hturns
  obtain ⟨t', hwrf', hwritten, -⟩ := wrfWritesField s r boff wid v hr hf
  obtain rfl : t = t' := by simpa [hwrf] using hwrf'
  obtain ⟨d, hrdf, hread⟩ := rdfReturnsField u r boff wid hf
  rw [readReg_after_turns hl hr hturns] at hread ⊢
  have hhigh : ∀ k, wid.toNat ≤ k → v.getLsbD k = false := fun k hk =>
    Nat.testBit_lt_two_pow (hv.trans_le (Nat.pow_le_pow_right (by decide) hk))
  have hbits : ∀ k < 32, d.getLsbD k = (implemented r (boff.toNat + k) && v.getLsbD k) := by
    intro k hk
    rw [hread k hk]
    obtain ⟨-, hinside⟩ := hf
    by_cases hkw : k < wid.toNat
    · rw [hwritten _ (by omega), if_pos (by omega), decide_eq_true hkw, Bool.true_and, Nat.add_sub_cancel_left]
    · simp [hkw, hhigh k (by omega)]
  refine ⟨d, hrdf, hbits, fun himpl => BitVec.eq_of_getLsbD_eq fun k hk => ?_, fun k hk hout => ?_⟩
  · rw [hbits k hk]
    by_cases hkw : k < wid.toNat
    · rw [himpl _ (by omega) (by omega), Bool.true_and]
    · rw [hhigh k (by omega), Bool.and_false]
  · rw [hwritten k hk, if_neg hout]

end Sys2Proof.Machine
end

section
/-!
PROOFS. The exception family: a command that answers with a fault writes the history alone (R186).
-/

namespace Sys2Proof.Machine

/-- A command that answers with a fault is one of those that only respond: a result has STATUS 0, and an accepted RUN does not answer yet. -/
theorem exec_eq_respond_of_fault {i : Instr} {s t : State} {r : Response} (h : exec i s = .next t)
    (hout : t.out = .response r :: s.out) (hstatus : r.status ≠ 0#4) : ∃ f, t = s.respond (faultResponse f) := by
  rcases exec_answers h with (⟨f, -, ht⟩ | ⟨d, hresult⟩) | ⟨-, -, rfl⟩
  · exact ⟨f, ht⟩
  · cases hresult.symm.trans hout
    exact absurd rfl hstatus
  · exact absurd hout List.ne_cons_self

/-- Settles O47: an illegal word and a faulting command both end in a bare response. -/
theorem faultsChangeNoState : Obligations.FaultsChangeNoState := by
  intro w s t r h hout hstatus
  rcases perform_cases h with ⟨f, -, rfl⟩ | ⟨i, -, hexec⟩
  · rfl
  · obtain ⟨f, rfl⟩ := exec_eq_respond_of_fault hexec hout hstatus
    rfl

end Sys2Proof.Machine
end

section
/-!
PROOFS. The reset and hazards family: a word presented on the command port (R218, R219), and the state at rest (R216, R220).
-/

namespace Sys2Proof.Machine

/-- A word decodes as a table word exactly when the decoder accepts it. -/
theorem decodeTableWord_eq_some {nbits w : Nat} {i : Instr} :
    decodeTableWord nbits w = some i ↔ decode (tableWord nbits w) = .ok i := by
  unfold decodeTableWord
  cases decode (tableWord nbits w) with
  | error f => simp [Except.toOption]
  | ok j => simp [Except.toOption]

/-- Settles O10: the presented word is performed by the next step, and performing a word that decodes is exec of its instruction. -/
theorem presentedWordIsPerformedNext : Obligations.PresentedWordIsPerformedNext := fun s _ _ _ hdecode =>
  (step_present s _).trans (perform_of_decode_ok (decodeTableWord_eq_some.1 hdecode) _)

/-- The state after reset is quiescent (R36). -/
theorem State.quiescent_resetWith (par : Params) (caps : Tri Nat) : (State.resetWith par caps).Quiescent :=
  ⟨rfl, rfl, rfl, rfl⟩

/-- Settles O60: in a quiescent state the timer is stopped, nothing is pending and the sequencer is idle, so the agent whose turn it
is has no step, and its turn moves the schedule alone (log entry 2). -/
theorem quiescentStateStaysPut : Obligations.QuiescentStateStaysPut := by
  refine ⟨State.quiescent_resetWith, fun s hquiet hreset hcmds => disabledAgentTakesNoStep s ?_⟩
  obtain ⟨hen, hirq, -, hseq⟩ := hquiet
  cases hturn : s.nextTurn with
  | timer => exact .inl ⟨rfl, hen⟩
  | dispatcher => exact .inr (.inl ⟨rfl, hirq⟩)
  | main => exact .inr (.inr ⟨rfl, congrArg RunSeq.phase hseq, hcmds hturn⟩)
  | reset => exact absurd hturn hreset

end Sys2Proof.Machine
end
